-- ==== Sys2Proof/Word.lean ====
section
/-! DEFINITION. The word types of the avc2 core (00_scope.md R8, R14): a cell is 8 bits, an address 16.
Arithmetic on them wraps modulo their width, as R14 and 40_cycle.md R123 say of the machine's. -/

namespace Sys2Proof

/-- A `u8`: one cell of a stack or of memory (00_scope.md R8, R19). -/
abbrev Byte := BitVec 8

/-- A `u16`: an address, the program counter, or a two-cell value (00_scope.md R8). -/
abbrev Addr := BitVec 16

end Sys2Proof
end

