-- ==== Sys2Proof/Machine/Bits.lean ====
section
/-! DEFINITION. Bit-field, byte-order and extension helpers (00_scope.md R14). -/

namespace Sys2Proof.Machine

/-- `hi:lo`, the 16-bit value `hi * 256 + lo` (00_scope.md R14). -/
def hiLo (hi lo : Byte) : Addr := hi ++ lo

/-- `v[15:8]` of a 16-bit value (00_scope.md R14). -/
def hiByte (v : Addr) : Byte := v.extractLsb' 8 8

/-- `v[7:0]` of a 16-bit value (00_scope.md R14). -/
def loByte (v : Addr) : Byte := v.extractLsb' 0 8

/-- `sext16(v8)`: two's complement, extended to 16 bits (00_scope.md R14). -/
def sext16 (v : Byte) : Addr := v.signExtend 16

/-- `zext16(v8)`: extended with zeros (00_scope.md R14). -/
def zext16 (v : Byte) : Addr := v.setWidth 16

/-- Bits 7:4 of a byte, as a number 0 to 15. -/
def hiNibble (v : Byte) : Fin 16 := ⟨v.toNat / 16, by have := v.isLt; omega⟩

/-- Bits 3:0 of a byte, as a number 0 to 15. -/
def loNibble (v : Byte) : Fin 16 := ⟨v.toNat % 16, by omega⟩

end Sys2Proof.Machine
end

