-- ==== Sys2Proof/Config.lean ====
section
/-! DEFINITION. What is fixed for one machine (00_scope.md R8), the types of the device ports (R12), and
the free values: what the devices answer (R13), the id of the mandatory device's kind (R8) and which integers
name an exit code (R8).
A free value is an `opaque` constant: nothing in Lean can evaluate it. -/

namespace Sys2Proof

/-! ## The types of the device ports -/

/-- A slot of the device bus, 0 to 15 (00_scope.md R8 `NSLOTS`). -/
abbrev Slot := Fin 16

/-- A port of a slot, 0 to 15 (00_scope.md R8 `NPORTS`). -/
abbrev Port := Fin 16

/-- The id of a device kind. The spec leaves its type open (00_scope.md R8 `DEVICE_KINDS`); the core
only compares ids.
DESIGN CHOICE: a natural number (log entry 3, safe). -/
abbrev KindId := Nat

/-- Which integers name an exit code: the free part of the parameter `ExitCode`, whose type the spec leaves
OPEN (00_scope.md R8, D24; log entry 2). -/
opaque Config.isExitCode : Int → Bool

/-- `ExitCode`, the type of the code a device gives with a shutdown (00_scope.md R8, D24); the core only records
it. Its values are named by integers, and which integers name one is free, but that every byte does,
since a device can answer `Shutdown(v)` to a written byte `v` (95_test_vectors.md V-SRC-7).
DESIGN CHOICE: the naming by integers (log entry 2, safe). -/
abbrev ExitCode := { c : Int // (0 ≤ c ∧ c < 256) ∨ Config.isExitCode c = true }

/-- The exit code that a byte names (95_test_vectors.md V-SRC-7). -/
def ExitCode.ofByte (v : Byte) : ExitCode :=
  ⟨v.toNat, .inl ⟨Int.natCast_nonneg _, Int.ofNat_lt.mpr v.isLt⟩⟩

/-- What a device answers a write (00_scope.md R12, 20_memory.md R62). -/
inductive Response where
  /-- No effect on the core (20_memory.md R63). -/
  | none
  /-- Stop the machine with this exit code (20_memory.md R66). -/
  | shutdown (code : ExitCode)
  /-- Device-to-memory DMA: these bytes go to memory from this address on (20_memory.md R64, R65). -/
  | devToMem (target : Addr) (bytes : List Byte)
  /-- Memory-to-device DMA: so many bytes from this address on go to the device (20_memory.md R67, R69).
  The length has no bound (D25). -/
  | memToDev (target : Addr) (length : Nat)
  deriving DecidableEq, Repr, Inhabited

/-- A request the core makes of a device (00_scope.md R12). -/
inductive BusEvent where
  /-- `dev_read(slot, port)` -/
  | read (slot : Slot) (port : Port)
  /-- `dev_write(slot, port, value)` -/
  | write (slot : Slot) (port : Port) (value : Byte)
  /-- `dev_dma_callback(slot, bytes)` -/
  | dmaCallback (slot : Slot) (bytes : List Byte)
  /-- `dev_shutdown(slot)` -/
  | shutdown (slot : Slot)
  deriving DecidableEq, Repr

namespace Config

/-! ## Fixed parameters (00_scope.md R8, at the defaults it gives; log entry 1) -/

/-- `WST_BASE`, the base of the working-stack page (00_scope.md R8, R9, D2). -/
def wstBase : Addr := 0x0100

/-- `RST_BASE`, the base of the return-stack page (00_scope.md R8, R9, D2). -/
def rstBase : Addr := 0x0200

/-- `LOAD_OFFSET`, where the program image begins (00_scope.md R8). -/
def loadOffset : Addr := 0x0300

/-- `DEV_BASE`, the first address of the device region; RAM is everything below it (00_scope.md R8,
20_memory.md R52). -/
def devBase : Addr := 0xFF00

/-- `RESET_PC`, the entry point (00_scope.md R8, 70_reset_and_hazards.md R255, D3). -/
def resetPc : Addr := 0x0300

/-- `RESET_FLAGS` (00_scope.md R8, D4). -/
def resetFlags : Byte := 0x00

/-- What a RAM cell that memory does not list holds: RAM is zero at construction, outside the image
(10_state.md R40, 70_reset_and_hazards.md R254; log entry 12). -/
def ramDefault : Byte := 0x00

/-- The DMA nesting fuel of `State.reset` (20_memory.md R72 asks for fuel and names no number).
DESIGN CHOICE (log entry 6, safe): no statement rests on the number. -/
def resetDmaFuel : Nat := 4096

/-! ## Free values -/

/-- `MANDATORY_KIND`, the kind id of the device in slot 0 (00_scope.md R8 OPEN; log entry 3). -/
opaque mandatoryKind : KindId

/-- The byte a device answers a read with, where `State.readInputs` holds none: any byte, drawn anew for
each request, since the history of requests it is applied to grows with every request (00_scope.md
R13, D31; log entry 4). -/
opaque deviceRead : List BusEvent → Slot → Port → Byte

/-- The response a device answers a write with, where `State.writeInputs` holds none: any response, drawn
anew for each request (00_scope.md R13, D31; log entry 4). -/
opaque deviceWrite : List BusEvent → Slot → Port → Byte → Response

end Config

end Sys2Proof
end

