-- ==== Sys2Proof/Machine/Memory.lean ====
section
/-! DEFINITION. RAM as plain data: the cells that differ from `Config.ramDefault`, by address
(10_state.md R27, 20_memory.md R55). -/

namespace Sys2Proof.Machine

/-- RAM, a list of (address, byte) pairs: an address not listed holds `Config.ramDefault`. -/
abbrev Memory := List Host.Cell

/-- The byte at an address. -/
def Memory.read (m : Memory) (a : Nat) : Byte :=
  match m with
  | [] => Config.ramDefault
  | (b, v) :: rest => if b = a then v else Memory.read rest a

/-- The memory without the cell of an address. -/
def Memory.erase (m : Memory) (a : Nat) : Memory :=
  match m with
  | [] => []
  | (b, v) :: rest => if b = a then Memory.erase rest a else (b, v) :: Memory.erase rest a

/-- A cell put before the first one of a greater address. -/
def Memory.insert (m : Memory) (a : Nat) (v : Byte) : Memory :=
  match m with
  | [] => [(a, v)]
  | (b, w) :: rest => if a < b then (a, v) :: (b, w) :: rest else (b, w) :: Memory.insert rest a v

/-- Stores a byte. Storing the byte an unlisted address holds removes the entry, so that equal
memories are equal lists. -/
def Memory.write (m : Memory) (a : Nat) (v : Byte) : Memory :=
  if v = Config.ramDefault then Memory.erase m a else Memory.insert (Memory.erase m a) a v

/-- Addresses from `lo` on, strictly rising, all of them RAM addresses, and no entry equal to what an
unlisted address holds. -/
def Memory.wfFrom (lo : Nat) (m : Memory) : Bool :=
  match m with
  | [] => true
  | (b, v) :: rest =>
    decide (lo ≤ b) && decide (b < Config.devBase.toNat) && decide (v ≠ Config.ramDefault) &&
      Memory.wfFrom (b + 1) rest

/-- The canonical form of RAM. -/
def Memory.wf (m : Memory) : Bool := Memory.wfFrom 0 m

end Sys2Proof.Machine
end

