-- ==== Sys2Proof/Machine/State.lean ====
section
/-! DEFINITION. The state of the avc2 core as plain data (10_state.md R21), its value after reset (R40),
and the reasons a step can stop. -/

namespace Sys2Proof.Machine

/-- Why a model step can end in an outcome `fault`: it never does. The machine's one exception,
DivideByZero, is a value of `Status` that a next state holds (60_exceptions.md R220, R221), and
every other behaviour is defined, so this type has no constructor. -/
inductive Fault where
  deriving DecidableEq, Repr

/-- Why a step can be refused. -/
inductive Refusal where
  /-- An instruction of exec that has no meaning yet. No arm of exec answers it. Safe. -/
  | notModelled (mnemonic : String)
  /-- Raised by a store (STR, STA) whose device write starts a chain of nested device-to-memory DMAs
  deeper than `State.dmaFuel`: the model is stuck, which is neither completion nor a fault
  (20_memory.md R72, D26; log entry 6). Safe: nothing is claimed of the machine after it. -/
  | dmaStuck
  deriving DecidableEq, Repr

/-- The causes of an exception (60_exceptions.md R222). -/
inductive Cause where
  | divideByZero
  deriving DecidableEq, Repr

/-- The run status (10_state.md R21). -/
inductive Status where
  | running
  /-- Stopped by a device's shutdown response, with the device's exit code (20_memory.md R66). -/
  | halted (code : ExitCode)
  /-- Stopped by an exception of the instruction at `pc` (60_exceptions.md R221). -/
  | faulted (cause : Cause) (pc : Addr)
  deriving DecidableEq, Repr

/-- The state of the machine (10_state.md R21), and after it the model's own fields, which carry what
crosses the device ports. -/
structure State where
  /-- `sp[0]`, the working stack pointer (10_state.md R22). -/
  wsp : Byte
  /-- `sp[1]`, the return stack pointer (10_state.md R22). -/
  rsp : Byte
  /-- The flag byte; bit 0 is C (10_state.md R24). -/
  flags : Byte
  /-- The program counter (10_state.md R26). -/
  pc : Addr
  /-- `RAM[0x0000..0xFEFF]`, both stack pages in it (10_state.md R27, R30). -/
  ram : Memory
  /-- The slot of the latest memory-to-device DMA requester (10_state.md R28). -/
  lastDmaSource : Option Slot
  /-- `present[s]` and `kind[s]`: `none` where no device is present, else its kind (10_state.md R29). -/
  slots : Vector (Option KindId) 16
  /-- The run status (10_state.md R21). -/
  status : Status
  /-- Model's own: the answers fixed for the coming device reads, the next one first (log entry 4). -/
  readInputs : List Byte
  /-- Model's own: the answers fixed for the coming device writes, the next one first (log entry 4). -/
  writeInputs : List Response
  /-- Model's own: the requests made of devices so far, oldest first (log entry 5). -/
  busTrace : List BusEvent
  /-- Model's own: how deep device writes may nest below one store (log entry 6). -/
  dmaFuel : Nat
  deriving DecidableEq, Repr

/-- The machine right after its construction from an empty image and an empty placement list
(10_state.md R40, 70_reset_and_hazards.md R250 to R255): a program is loaded from outside (log
entry 8). -/
def State.reset : State where
  wsp := 0xFF
  rsp := 0xFF
  flags := Config.resetFlags
  pc := Config.resetPc
  ram := []
  lastDmaSource := none
  slots := #v[some Config.mandatoryKind, none, none, none, none, none, none, none,
    none, none, none, none, none, none, none, none]
  status := .running
  readInputs := []
  writeInputs := []
  busTrace := []
  dmaFuel := Config.resetDmaFuel

end Sys2Proof.Machine
end

