-- ==== Sys2Proof/Syntax.lean ====
section
/-! DEFINITION. The instructions of the avc2 core: one constructor per row of spec/opcode_table.json
(30_encoding.md R90, R91, R94, R95), and the names of their parts. -/

namespace Sys2Proof

/-- The two stacks: `working` is stack 0, `ret` (the return stack) is stack 1 (10_state.md R30).
Opcode bit 6 (`r`) selects one (30_encoding.md R91). -/
inductive StackId where
  | working
  | ret
  deriving DecidableEq, Repr, Inhabited

/-- The other stack, written `!s` in the spec (00_scope.md R16). -/
def StackId.other : StackId → StackId
  | .working => .ret
  | .ret => .working

/-- The operand size `n` of 00_scope.md R16: one byte (`d` = 0) or two (`d` = 1). -/
inductive Width where
  | one
  | two
  deriving DecidableEq, Repr, Inhabited

/-- `n`, the operand size in bytes (00_scope.md R16). -/
@[reducible] def Width.bytes : Width → Nat
  | .one => 1
  | .two => 2

/-- `w = 8 * n`, the operand width in bits (00_scope.md R16). -/
@[reducible] def Width.bits : Width → Nat
  | .one => 8
  | .two => 16

/-- The three mode bits of an opcode (00_scope.md R16, 30_encoding.md R91): `keep` is bit 7 (`k`),
`stack` bit 6 (`r`), `width` bit 5 (`d`). -/
structure Mode where
  keep : Bool
  stack : StackId
  width : Width
  deriving DecidableEq, Repr, Inhabited

/-- The base operations that take a mode (30_encoding.md R94, ops 3 to 0xd and 0x10 to 0x1f). -/
inductive BaseOp where
  | pop | swp | rot | dup | ovr | equ | gth
  | jmp | jcn | jsr | sth | ldz | stz | ldr
  | str | lda | sta | pic | put | adc | sbc
  | mul | dvm | and | ior | xor | sft
  deriving DecidableEq, Repr, Inhabited

/-- The four reserved base operations 1, 2, 0xe and 0xf (30_encoding.md R98). -/
inductive ReservedOp where
  | op1 | op2 | opE | opF
  deriving DecidableEq, Repr, Inhabited

/-- The instructions, one constructor per row of spec/opcode_table.json, in the order of the opcode
byte. The suffixes are the table's: `2` is `d`, `k` is keep, `r` is the return stack (30_encoding.md
R101). LIT alone carries an operand, the literal that follows its opcode byte (R90, R96). -/
inductive Instr where
  -- 0x00 to 0x0F
  | nop | rsv01 | rsv02 | pop | swp | rot | dup | ovr
  | equ | gth | jmp | jcn | jsr | sth | rsv0E | rsv0F
  -- 0x10 to 0x1F
  | ldz | stz | ldr | str | lda | sta | pic | put
  | adc | sbc | mul | dvm | and | ior | xor | sft
  -- 0x20 to 0x2F
  | sec | rsv21 | rsv22 | pop2 | swp2 | rot2 | dup2 | ovr2
  | equ2 | gth2 | jmp2 | jcn2 | jsr2 | sth2 | rsv2E | rsv2F
  -- 0x30 to 0x3F
  | ldz2 | stz2 | ldr2 | str2 | lda2 | sta2 | pic2 | put2
  | adc2 | sbc2 | mul2 | dvm2 | and2 | ior2 | xor2 | sft2
  -- 0x40 to 0x4F
  | clc | rsv41 | rsv42 | popr | swpr | rotr | dupr | ovrr
  | equr | gthr | jmpr | jcnr | jsrr | sthr | rsv4E | rsv4F
  -- 0x50 to 0x5F
  | ldzr | stzr | ldrr | strr | ldar | star | picr | putr
  | adcr | sbcr | mulr | dvmr | andr | iorr | xorr | sftr
  -- 0x60 to 0x6F
  | ext | rsv61 | rsv62 | pop2r | swp2r | rot2r | dup2r | ovr2r
  | equ2r | gth2r | jmp2r | jcn2r | jsr2r | sth2r | rsv6E | rsv6F
  -- 0x70 to 0x7F
  | ldz2r | stz2r | ldr2r | str2r | lda2r | sta2r | pic2r | put2r
  | adc2r | sbc2r | mul2r | dvm2r | and2r | ior2r | xor2r | sft2r
  -- 0x80 to 0x8F
  | lit (imm : Byte) | rsv81 | rsv82 | rti | swpk | rotk | dupk | ovrk
  | equk | gthk | jmpk | jcnk | jsrk | sthk | rsv8E | rsv8F
  -- 0x90 to 0x9F
  | ldzk | stzk | ldrk | strk | ldak | stak | pick | putk
  | adck | sbck | mulk | dvmk | andk | iork | xork | sftk
  -- 0xA0 to 0xAF
  | lit2 (imm : BitVec 16) | rsvA1 | rsvA2 | pop2k | swp2k | rot2k | dup2k | ovr2k
  | equ2k | gth2k | jmp2k | jcn2k | jsr2k | sth2k | rsvAE | rsvAF
  -- 0xB0 to 0xBF
  | ldz2k | stz2k | ldr2k | str2k | lda2k | sta2k | pic2k | put2k
  | adc2k | sbc2k | mul2k | dvm2k | and2k | ior2k | xor2k | sft2k
  -- 0xC0 to 0xCF
  | litr (imm : Byte) | rsvC1 | rsvC2 | popkr | swpkr | rotkr | dupkr | ovrkr
  | equkr | gthkr | jmpkr | jcnkr | jsrkr | sthkr | rsvCE | rsvCF
  -- 0xD0 to 0xDF
  | ldzkr | stzkr | ldrkr | strkr | ldakr | stakr | pickr | putkr
  | adckr | sbckr | mulkr | dvmkr | andkr | iorkr | xorkr | sftkr
  -- 0xE0 to 0xEF
  | lit2r (imm : BitVec 16) | rsvE1 | rsvE2 | pop2kr | swp2kr | rot2kr | dup2kr | ovr2kr
  | equ2kr | gth2kr | jmp2kr | jcn2kr | jsr2kr | sth2kr | rsvEE | rsvEF
  -- 0xF0 to 0xFF
  | ldz2kr | stz2kr | ldr2kr | str2kr | lda2kr | sta2kr | pic2kr | put2kr
  | adc2kr | sbc2kr | mul2kr | dvm2kr | and2kr | ior2kr | xor2kr | sft2kr
  deriving DecidableEq, Repr

end Sys2Proof
end

