-- ==== Sys2Proof/Machine/Ops.lean ====
section
/-! DEFINITION. The named operations of the machine: the stack primitives (10_state.md R30 to R37), the
memory router and the device bus with its DMA (20_memory.md R52 to R72), taking the exception and
returning (60_exceptions.md R221, 43_compare_control.md R176), and the fetch of the bytes of an
instruction. -/

namespace Sys2Proof.Machine

/-! ## Plain RAM and the program counter -/

/-- An address of RAM, and not of the device region (20_memory.md R52). -/
def isRam (a : Addr) : Bool := decide (a < Config.devBase)

/-- `RAM[a]` (20_memory.md R55). -/
def ramRead (a : Addr) (s : State) : Byte := s.ram.read a.toNat

/-- `RAM[a] <- v` (20_memory.md R55). -/
def ramWrite (a : Addr) (v : Byte) (s : State) : State := { s with ram := s.ram.write a.toNat v }

/-- `pc <- target` (00_scope.md R15). -/
def setPc (a : Addr) (s : State) : State := { s with pc := a }

/-! ## The stacks -/

/-- `sp[s]` (10_state.md R22). -/
def sp (st : StackId) (s : State) : Byte :=
  match st with
  | .working => s.wsp
  | .ret => s.rsp

/-- `sp[s] <- v` (10_state.md R22). -/
def setSp (st : StackId) (v : Byte) (s : State) : State :=
  match st with
  | .working => { s with wsp := v }
  | .ret => { s with rsp := v }

/-- `base(s)`, the page of a stack (10_state.md R30). -/
def stackBase (st : StackId) : Addr :=
  match st with
  | .working => Config.wstBase
  | .ret => Config.rstBase

/-- `base(s) + zext16(i)`: the cell of an index of the stack page (10_state.md R31). -/
def cellAddr (st : StackId) (i : Byte) : Addr := stackBase st + zext16 i

/-- `(sp[s] + o + 1) mod 256`, the index of the cell at offset `o` (10_state.md R33, D7). -/
def peekIndex (st : StackId) (o : Nat) (s : State) : Byte := sp st s + BitVec.ofNat 8 o + 1

/-- `push8(s, v)` (10_state.md R31). -/
def push8 (st : StackId) (v : Byte) (s : State) : State :=
  setSp st (sp st s - 1) (ramWrite (cellAddr st (sp st s)) v s)

/-- `pop8(s)` (10_state.md R32). -/
def pop8 (st : StackId) (s : State) : Byte × State :=
  (ramRead (cellAddr st (sp st s + 1)) s, setSp st (sp st s + 1) s)

/-- `peek8(s, o)` (10_state.md R33). -/
def peek8 (st : StackId) (o : Nat) (s : State) : Byte := ramRead (cellAddr st (peekIndex st o s)) s

/-- `poke8(s, o, v)` (10_state.md R33). -/
def poke8 (st : StackId) (o : Nat) (v : Byte) (s : State) : State :=
  ramWrite (cellAddr st (peekIndex st o s)) v s

/-- `push16(s, v)`: low byte first, so that the high byte is topmost (10_state.md R34). -/
def push16 (st : StackId) (v : Addr) (s : State) : State :=
  push8 st (hiByte v) (push8 st (loByte v) s)

/-- `pop16(s)`: high byte first (10_state.md R35). -/
def pop16 (st : StackId) (s : State) : Addr × State :=
  let hi := pop8 st s
  let lo := pop8 st hi.2
  (hiLo hi.1 lo.1, lo.2)

/-- `peek16(s, o)`: high byte at offset `o`, low byte at `o + 1` (10_state.md R36, D17). -/
def peek16 (st : StackId) (o : Nat) (s : State) : Addr := hiLo (peek8 st o s) (peek8 st (o + 1) s)

/-- `poke16(s, o, v)` (10_state.md R36, D17). -/
def poke16 (st : StackId) (o : Nat) (v : Addr) (s : State) : State :=
  poke8 st (o + 1) (loByte v) (poke8 st o (hiByte v) s)

/-- `push_n(s, v)` (10_state.md R37). -/
def push (w : Width) (st : StackId) (v : BitVec w.bits) (s : State) : State :=
  match w, v with
  | .one, v => push8 st v s
  | .two, v => push16 st v s

/-- `pop_n(s)` (10_state.md R37). -/
def pop (w : Width) (st : StackId) (s : State) : BitVec w.bits × State :=
  match w with
  | .one => pop8 st s
  | .two => pop16 st s

/-- `peek_n(s, o)` (10_state.md R37). -/
def peek (w : Width) (st : StackId) (o : Nat) (s : State) : BitVec w.bits :=
  match w with
  | .one => peek8 st o s
  | .two => peek16 st o s

/-- `poke_n(s, o, v)` (10_state.md R37). -/
def poke (w : Width) (st : StackId) (o : Nat) (v : BitVec w.bits) (s : State) : State :=
  match w, v with
  | .one, v => poke8 st o v s
  | .two, v => poke16 st o v s

/-! ## The device bus -/

/-- The slot of a bus address (20_memory.md R60). -/
def busSlot (b : Byte) : Slot := hiNibble b

/-- The port of a bus address (20_memory.md R60). -/
def busPort (b : Byte) : Port := loNibble b

/-- `present[s]` (10_state.md R29). -/
def present (slot : Slot) (s : State) : Bool := (s.slots.get slot).isSome

/-- The byte the environment answers a device read with: the next of `readInputs`, or a free value where
there is none (00_scope.md R13, D31; log entry 4). -/
def readAnswer (slot : Slot) (port : Port) (s : State) : Byte :=
  match s.readInputs with
  | v :: _ => v
  | [] => Config.deviceRead s.busTrace slot port

/-- The response the environment answers a device write with: the next of `writeInputs`, or a free value
where there is none (00_scope.md R13, D31; log entry 4). -/
def writeAnswer (slot : Slot) (port : Port) (v : Byte) (s : State) : Response :=
  match s.writeInputs with
  | r :: _ => r
  | [] => Config.deviceWrite s.busTrace slot port v

/-- `bus_read(b)` (20_memory.md R61). -/
def busRead (b : Byte) (s : State) : Byte × State :=
  if present (busSlot b) s then
    (readAnswer (busSlot b) (busPort b) s,
      { s with
        readInputs := s.readInputs.tail
        busTrace := s.busTrace ++ [.read (busSlot b) (busPort b)] })
  else (0x00, s)

/-- All slots, in slot order. -/
def allSlots : List Slot := [0, 1, 2, 3, 4, 5, 6, 7, 8, 9, 10, 11, 12, 13, 14, 15]

/-- `shutdown_all()`: every present device once, in slot order; whether one fails is ignored
(20_memory.md R66). -/
def shutdownAll (s : State) : State :=
  { s with
    busTrace := s.busTrace ++ (allSlots.filter fun slot => present slot s).map BusEvent.shutdown }

/-- `halt(code)` (20_memory.md R66, 00_scope.md R15). -/
def halt (code : ExitCode) (s : State) : State := { s with status := .halted code }

/-- What the bus does on a device's response, before the memory router applies a DMA: a memory-to-device
request records its slot (20_memory.md R67, C1), a shutdown stops the machine (R66). -/
def busRespond (slot : Slot) (r : Response) (s : State) : State :=
  match r with
  | .none => s
  | .devToMem _ _ => s
  | .memToDev _ _ => { s with lastDmaSource := some slot }
  | .shutdown code => halt code (shutdownAll s)

/-- `bus_write(b, v)` (20_memory.md R62): the response for the router to apply, and the state after the bus
has acted on it. -/
def busWrite (b : Byte) (v : Byte) (s : State) : Response × State :=
  if present (busSlot b) s then
    (writeAnswer (busSlot b) (busPort b) v s,
      busRespond (busSlot b) (writeAnswer (busSlot b) (busPort b) v s)
        { s with
          writeInputs := s.writeInputs.tail
          busTrace := s.busTrace ++ [.write (busSlot b) (busPort b) v] })
  else (.none, s)

/-- `dma_deliver(bytes)` (20_memory.md R68, D32, D33). -/
def dmaDeliver (bytes : List Byte) (s : State) : State :=
  match s.lastDmaSource with
  | none => s
  | some slot =>
    if present slot s then { s with busTrace := s.busTrace ++ [.dmaCallback slot bytes] } else s

/-! ## The memory router -/

/-- `read8(a)` (20_memory.md R53). -/
def read8 (a : Addr) (s : State) : Byte × State :=
  if isRam a then (ramRead a s, s) else busRead (loByte a) s

/-- `read16(a)`: the byte at `a` first (20_memory.md R56, R58, D8). -/
def read16 (a : Addr) (s : State) : Addr × State :=
  let hi := read8 a s
  let lo := read8 (a + 1) hi.2
  (hiLo hi.1 lo.1, lo.2)

/-- `MemRead(a, n)` (00_scope.md R15). -/
def memRead (w : Width) (a : Addr) (s : State) : BitVec w.bits × State :=
  match w with
  | .one => read8 a s
  | .two => read16 a s

/-- The bytes a memory-to-device DMA reads, in order, at consecutive addresses (20_memory.md R69). -/
def readBytes (a : Addr) (len : Nat) (s : State) : List Byte × State :=
  match len with
  | 0 => ([], s)
  | n + 1 =>
    let b := read8 a s
    let rest := readBytes (a + 1) n b.2
    (b.1 :: rest.1, rest.2)

/-- `apply_m2d(t, len)`: all reads, then the one delivery (20_memory.md R69, D25). -/
def applyM2d (t : Addr) (len : Nat) (s : State) : State :=
  let bytes := readBytes t len s
  dmaDeliver bytes.1 bytes.2

/-- How a write can end: done, the machine halted at this write (20_memory.md R66), or stuck in a DMA
chain deeper than the fuel (R72). -/
inductive Flow where
  | done (s : State)
  | halted (s : State)
  | stuck
  deriving DecidableEq, Repr

/-- Goes on after a write that is done; after a halt nothing more happens (20_memory.md R66, D23). -/
def Flow.andThen (f : Flow) (k : State → Flow) : Flow :=
  match f with
  | .done s => k s
  | .halted s => .halted s
  | .stuck => .stuck

/-- `apply_d2m(t, bytes)`, over the `write8` it recurses into (20_memory.md R65). -/
def applyD2m (w8 : Addr → Byte → State → Flow) (t : Addr) (bytes : List Byte) (s : State) : Flow :=
  match bytes with
  | [] => .done s
  | b :: rest => (w8 t b s).andThen (applyD2m w8 (t + 1) rest)

/-- The router applies what the bus returned (20_memory.md R54). -/
def applyResponse (w8 : Addr → Byte → State → Flow) (r : Response) (s : State) : Flow :=
  match r with
  | .none => .done s
  | .devToMem t bytes => applyD2m w8 t bytes s
  | .memToDev t len => .done (applyM2d t len s)
  | .shutdown _ => .halted s

/-- `write8(a, v)` over the `write8` of the next nesting level (20_memory.md R54). -/
def write8With (w8 : Addr → Byte → State → Flow) (a : Addr) (v : Byte) (s : State) : Flow :=
  if isRam a then .done (ramWrite a v s)
  else applyResponse w8 (busWrite (loByte a) v s).1 (busWrite (loByte a) v s).2

/-- `write8(a, v)` where no fuel is left: RAM is still written and an unpopulated slot still ignores the write,
but a further device write is stuck (20_memory.md R72, D26). -/
def write8Last (a : Addr) (v : Byte) (s : State) : Flow :=
  if isRam a then .done (ramWrite a v s)
  else if present (busSlot (loByte a)) s then .stuck
  else .done s

/-- `write8(a, v)` (20_memory.md R54), with at most `fuel` device writes nested below it (R72, D26). -/
def write8 (fuel : Nat) (a : Addr) (v : Byte) (s : State) : Flow :=
  match fuel with
  | 0 => write8With write8Last a v s
  | n + 1 => write8With (write8 n) a v s

/-- `write16(a, v)`: the byte at `a` first; where it halts the core, the second is not written
(20_memory.md R57, D8, D23). -/
def write16 (fuel : Nat) (a : Addr) (v : Addr) (s : State) : Flow :=
  (write8 fuel a (hiByte v) s).andThen (write8 fuel (a + 1) (loByte v))

/-- `MemWrite(a, n, v)` (00_scope.md R15), with the state's fuel. -/
def memWrite (w : Width) (a : Addr) (v : BitVec w.bits) (s : State) : Flow :=
  match w, v with
  | .one, v => write8 s.dmaFuel a v s
  | .two, v => write16 s.dmaFuel a v s

/-! ## How an instruction ends -/

/-- What an instruction answers. -/
abbrev Answer := Host.Outcome State Fault Refusal

/-- The end-of-instruction increment (40_cycle.md R118). -/
def complete (s : State) : Answer := .next (setPc (s.pc + 1) s)

/-- An instruction that ended in a write: where the write halted the core there is no increment
(40_cycle.md R118, 20_memory.md R66), and a stuck one has no next state (R72). -/
def Flow.complete (f : Flow) : Answer :=
  match f with
  | .done s => Machine.complete s
  | .halted s => .next s
  | .stuck => .refused .dmaStuck

/-! ## Taking the exception, and returning -/

/-- The code of a cause in the cause table, the spec's numbering for the fault outcome; no program sees it
(60_exceptions.md R222, D20). -/
def Cause.code (c : Cause) : Nat :=
  match c with
  | .divideByZero => 1

/-- `raise cause(pc)`: the machine stops with the cause and the opcode address in `status`, and nothing
else changes; there is no saved register, no mode and no vector (60_exceptions.md R221, R228). -/
def raise (cause : Cause) (s : State) : State := { s with status := .faulted cause s.pc }

/-- RTI's return: the flag byte off the working stack, the address off the return stack, `pc` one before it
for the increment that follows (43_compare_control.md R176, C12, D22, D34). -/
def returnWithFlags (s : State) : State :=
  let f := pop8 .working s
  let ra := pop16 .ret f.2
  { ra.2 with flags := f.1, pc := ra.1 - 1 }

end Sys2Proof.Machine
end

