-- ==== Sys2Proof/Machine/Flags.lean ====
section
/-! DEFINITION. The carry flag and the arithmetic that reads and writes it (10_state.md R24, R25;
45_arith_logic.md R200, R201). -/

namespace Sys2Proof.Machine

/-- C, bit 0 of `flags` (10_state.md R24). -/
def carry (s : State) : Bool := s.flags.getLsbD 0

/-- `flags[0]` as a number. -/
def carryNat (s : State) : Nat := (carry s).toNat

/-- `flags[0] <- c`, bits 7:1 unchanged (10_state.md R25, D22). -/
def setCarry (c : Bool) (s : State) : State :=
  { s with flags := (s.flags &&& 0xFE) ||| (if c then 0x01 else 0x00) }

/-- `unsigned(a) + unsigned(b) + C`, as an integer (45_arith_logic.md R200). -/
def sumExact {n : Nat} (a b : BitVec n) (c : Nat) : Nat := a.toNat + b.toNat + c

/-- The carry out of ADC: unsigned overflow (45_arith_logic.md R200, D37). -/
def sumCarry {n : Nat} (a b : BitVec n) (c : Nat) : Bool := decide (2 ^ n ≤ sumExact a b c)

/-- `unsigned(a) - unsigned(b) - (1 - C)`, as an integer (45_arith_logic.md R201, D18). -/
def differenceExact {n : Nat} (a b : BitVec n) (c : Nat) : Int :=
  (a.toNat : Int) - (b.toNat : Int) - (1 - (c : Int))

/-- The carry out of SBC: 1 is no borrow (45_arith_logic.md R201, D37). -/
def differenceCarry {n : Nat} (a b : BitVec n) (c : Nat) : Bool := decide (0 ≤ differenceExact a b c)

end Sys2Proof.Machine
end

