-- ==== Sys2Proof/Machine/Operands.lean ====
section
/-! DEFINITION. The operand forms (30_encoding.md R97, 40_cycle.md R114, R119): how an instruction takes
its operands from its stack, and the addresses it computes from them. -/

namespace Sys2Proof.Machine

/-- `take(n)` on the stack the mode selects (40_cycle.md R114): a pop, or with keep a peek at `cur`, the
number of cells this instruction has taken already. -/
def take (m : Mode) (w : Width) (cur : Nat) (s : State) : BitVec w.bits × State :=
  if m.keep then (peek w m.stack cur s, s) else pop w m.stack s

/-- The two operands of a binary operation `( a b -- ... )`: `b`, the topmost, is taken first
(40_cycle.md R115). -/
structure Pair (w : Width) where
  a : BitVec w.bits
  b : BitVec w.bits
  rest : State

/-- `b <- take(n); a <- take(n)` (40_cycle.md R115). -/
def takePair (m : Mode) (s : State) : Pair m.width :=
  let b := take m m.width 0 s
  let a := take m m.width m.width.bytes b.2
  ⟨a.1, b.1, a.2⟩

/-- `pc + sext16(o)`: an offset from the opcode address (40_cycle.md R119, C2). -/
def relative (o : Byte) (s : State) : Addr := s.pc + sext16 o

/-- How a load or store finds its address (44_memory_access.md). -/
inductive Addressing where
  | zeroPage
  | relative
  | absolute
  deriving DecidableEq, Repr

/-- The width of the address operand, fixed by the addressing mode (30_encoding.md R92, R97). -/
def Addressing.operand (k : Addressing) : Width :=
  match k with
  | .zeroPage => .one
  | .relative => .one
  | .absolute => .two

/-- The address an address operand designates (30_encoding.md R97, 44_memory_access.md R190 to R195). -/
def effectiveAddr (k : Addressing) (o : BitVec k.operand.bits) (s : State) : Addr :=
  match k, o with
  | .zeroPage, o => zext16 o
  | .relative, o => Machine.relative o s
  | .absolute, o => o

/-- The target operand of a jump: an absolute address for `d` = 1, an offset for `d` = 0
(43_compare_control.md R172, D11). -/
def jumpAddr (w : Width) (o : BitVec w.bits) (s : State) : Addr :=
  match w, o with
  | .one, o => relative o s
  | .two, o => o

/-- `target()` (43_compare_control.md R172). -/
def target (m : Mode) (s : State) : Addr × State :=
  let o := take m m.width 0 s
  (jumpAddr m.width o.1 s, o.2)

/-- A taken jump: `pc <- target - 1`, for the increment that follows (40_cycle.md R120). -/
def jump (t : Addr) (s : State) : State := setPc (t - 1) s

/-- The left count of SFT, bits 7:4 of the shift amount (30_encoding.md R97, 45_arith_logic.md R207). -/
def leftCount (sh : Byte) : Nat := hiNibble sh

/-- The right count of SFT, bits 3:0 of the shift amount (30_encoding.md R97, 45_arith_logic.md R207). -/
def rightCount (sh : Byte) : Nat := loNibble sh

/-- A truth value as the byte that EQU and GTH push (43_compare_control.md R170, R171, D13). -/
def truthByte (t : Bool) : Byte := if t then 0x01 else 0x00

/-- JCN's condition: any byte but zero is true (30_encoding.md R97, 43_compare_control.md R174). -/
def condition (c : Byte) : Bool := c != 0x00

end Sys2Proof.Machine
end

