-- ==== Sys2Proof/Machine/ArithLogic.lean ====
section
/-! DEFINITION. ADC, SBC, MUL, DVM, AND, IOR, XOR and SFT (45_arith_logic.md). -/

namespace Sys2Proof.Machine

/-! ## ADC -/

/-- ADC: `a + b + C` modulo `2^w`; C is the carry out (45_arith_logic.md R200). -/
def adcOp (m : Mode) (s : State) : State :=
  let p := takePair m s
  setCarry (sumCarry p.a p.b (carryNat s))
    (push m.width m.stack (BitVec.ofNat m.width.bits (sumExact p.a p.b (carryNat s))) p.rest)

/-- ADC, byte `0x18` (R200). -/
def execAdc (s : State) : Answer := complete (adcOp ⟨false, .working, .one⟩ s)

/-- ADC2, byte `0x38` (R200). -/
def execAdc2 (s : State) : Answer := complete (adcOp ⟨false, .working, .two⟩ s)

/-- ADCr, byte `0x58` (R200). -/
def execAdcr (s : State) : Answer := complete (adcOp ⟨false, .ret, .one⟩ s)

/-- ADC2r, byte `0x78` (R200). -/
def execAdc2r (s : State) : Answer := complete (adcOp ⟨false, .ret, .two⟩ s)

/-- ADCk, byte `0x98` (R200). -/
def execAdck (s : State) : Answer := complete (adcOp ⟨true, .working, .one⟩ s)

/-- ADC2k, byte `0xB8` (R200). -/
def execAdc2k (s : State) : Answer := complete (adcOp ⟨true, .working, .two⟩ s)

/-- ADCkr, byte `0xD8` (R200). -/
def execAdckr (s : State) : Answer := complete (adcOp ⟨true, .ret, .one⟩ s)

/-- ADC2kr, byte `0xF8` (R200). -/
def execAdc2kr (s : State) : Answer := complete (adcOp ⟨true, .ret, .two⟩ s)

/-! ## SBC -/

/-- SBC: `a - b - (1 - C)` modulo `2^w`; C is 1 where there was no borrow (45_arith_logic.md R201). -/
def sbcOp (m : Mode) (s : State) : State :=
  let p := takePair m s
  setCarry (differenceCarry p.a p.b (carryNat s))
    (push m.width m.stack (BitVec.ofInt m.width.bits (differenceExact p.a p.b (carryNat s))) p.rest)

/-- SBC, byte `0x19` (R201). -/
def execSbc (s : State) : Answer := complete (sbcOp ⟨false, .working, .one⟩ s)

/-- SBC2, byte `0x39` (R201). -/
def execSbc2 (s : State) : Answer := complete (sbcOp ⟨false, .working, .two⟩ s)

/-- SBCr, byte `0x59` (R201). -/
def execSbcr (s : State) : Answer := complete (sbcOp ⟨false, .ret, .one⟩ s)

/-- SBC2r, byte `0x79` (R201). -/
def execSbc2r (s : State) : Answer := complete (sbcOp ⟨false, .ret, .two⟩ s)

/-- SBCk, byte `0x99` (R201). -/
def execSbck (s : State) : Answer := complete (sbcOp ⟨true, .working, .one⟩ s)

/-- SBC2k, byte `0xB9` (R201). -/
def execSbc2k (s : State) : Answer := complete (sbcOp ⟨true, .working, .two⟩ s)

/-- SBCkr, byte `0xD9` (R201). -/
def execSbckr (s : State) : Answer := complete (sbcOp ⟨true, .ret, .one⟩ s)

/-- SBC2kr, byte `0xF9` (R201). -/
def execSbc2kr (s : State) : Answer := complete (sbcOp ⟨true, .ret, .two⟩ s)

/-! ## MUL -/

/-- MUL: the low half of the product (45_arith_logic.md R202). -/
def mulOp (m : Mode) (s : State) : State :=
  let p := takePair m s
  push m.width m.stack (p.a * p.b) p.rest

/-- MUL, byte `0x1A` (R202). -/
def execMul (s : State) : Answer := complete (mulOp ⟨false, .working, .one⟩ s)

/-- MUL2, byte `0x3A` (R202). -/
def execMul2 (s : State) : Answer := complete (mulOp ⟨false, .working, .two⟩ s)

/-- MULr, byte `0x5A` (R202). -/
def execMulr (s : State) : Answer := complete (mulOp ⟨false, .ret, .one⟩ s)

/-- MUL2r, byte `0x7A` (R202). -/
def execMul2r (s : State) : Answer := complete (mulOp ⟨false, .ret, .two⟩ s)

/-- MULk, byte `0x9A` (R202). -/
def execMulk (s : State) : Answer := complete (mulOp ⟨true, .working, .one⟩ s)

/-- MUL2k, byte `0xBA` (R202). -/
def execMul2k (s : State) : Answer := complete (mulOp ⟨true, .working, .two⟩ s)

/-- MULkr, byte `0xDA` (R202). -/
def execMulkr (s : State) : Answer := complete (mulOp ⟨true, .ret, .one⟩ s)

/-- MUL2kr, byte `0xFA` (R202). -/
def execMul2kr (s : State) : Answer := complete (mulOp ⟨true, .ret, .two⟩ s)

/-! ## DVM -/

/-- DVM: unsigned quotient, then remainder on top; a zero divisor takes the DivideByZero exception before
any operand is taken (45_arith_logic.md R203, D19, D20; 60_exceptions.md R221). -/
def dvmOp (m : Mode) (s : State) : Answer :=
  if peek m.width m.stack 0 s = 0 then .next (raise .divideByZero s)
  else
    let p := takePair m s
    complete (push m.width m.stack (p.a % p.b) (push m.width m.stack (p.a / p.b) p.rest))

/-- DVM, byte `0x1B` (R203). -/
def execDvm (s : State) : Answer := dvmOp ⟨false, .working, .one⟩ s

/-- DVM2, byte `0x3B` (R203). -/
def execDvm2 (s : State) : Answer := dvmOp ⟨false, .working, .two⟩ s

/-- DVMr, byte `0x5B` (R203). -/
def execDvmr (s : State) : Answer := dvmOp ⟨false, .ret, .one⟩ s

/-- DVM2r, byte `0x7B` (R203). -/
def execDvm2r (s : State) : Answer := dvmOp ⟨false, .ret, .two⟩ s

/-- DVMk, byte `0x9B` (R203). -/
def execDvmk (s : State) : Answer := dvmOp ⟨true, .working, .one⟩ s

/-- DVM2k, byte `0xBB` (R203). -/
def execDvm2k (s : State) : Answer := dvmOp ⟨true, .working, .two⟩ s

/-- DVMkr, byte `0xDB` (R203). -/
def execDvmkr (s : State) : Answer := dvmOp ⟨true, .ret, .one⟩ s

/-- DVM2kr, byte `0xFB` (R203). -/
def execDvm2kr (s : State) : Answer := dvmOp ⟨true, .ret, .two⟩ s

/-! ## AND -/

/-- AND: bitwise and (45_arith_logic.md R204). -/
def andOp (m : Mode) (s : State) : State :=
  let p := takePair m s
  push m.width m.stack (p.a &&& p.b) p.rest

/-- AND, byte `0x1C` (R204). -/
def execAnd (s : State) : Answer := complete (andOp ⟨false, .working, .one⟩ s)

/-- AND2, byte `0x3C` (R204). -/
def execAnd2 (s : State) : Answer := complete (andOp ⟨false, .working, .two⟩ s)

/-- ANDr, byte `0x5C` (R204). -/
def execAndr (s : State) : Answer := complete (andOp ⟨false, .ret, .one⟩ s)

/-- AND2r, byte `0x7C` (R204). -/
def execAnd2r (s : State) : Answer := complete (andOp ⟨false, .ret, .two⟩ s)

/-- ANDk, byte `0x9C` (R204). -/
def execAndk (s : State) : Answer := complete (andOp ⟨true, .working, .one⟩ s)

/-- AND2k, byte `0xBC` (R204). -/
def execAnd2k (s : State) : Answer := complete (andOp ⟨true, .working, .two⟩ s)

/-- ANDkr, byte `0xDC` (R204). -/
def execAndkr (s : State) : Answer := complete (andOp ⟨true, .ret, .one⟩ s)

/-- AND2kr, byte `0xFC` (R204). -/
def execAnd2kr (s : State) : Answer := complete (andOp ⟨true, .ret, .two⟩ s)

/-! ## IOR -/

/-- IOR: bitwise inclusive or (45_arith_logic.md R205). -/
def iorOp (m : Mode) (s : State) : State :=
  let p := takePair m s
  push m.width m.stack (p.a ||| p.b) p.rest

/-- IOR, byte `0x1D` (R205). -/
def execIor (s : State) : Answer := complete (iorOp ⟨false, .working, .one⟩ s)

/-- IOR2, byte `0x3D` (R205). -/
def execIor2 (s : State) : Answer := complete (iorOp ⟨false, .working, .two⟩ s)

/-- IORr, byte `0x5D` (R205). -/
def execIorr (s : State) : Answer := complete (iorOp ⟨false, .ret, .one⟩ s)

/-- IOR2r, byte `0x7D` (R205). -/
def execIor2r (s : State) : Answer := complete (iorOp ⟨false, .ret, .two⟩ s)

/-- IORk, byte `0x9D` (R205). -/
def execIork (s : State) : Answer := complete (iorOp ⟨true, .working, .one⟩ s)

/-- IOR2k, byte `0xBD` (R205). -/
def execIor2k (s : State) : Answer := complete (iorOp ⟨true, .working, .two⟩ s)

/-- IORkr, byte `0xDD` (R205). -/
def execIorkr (s : State) : Answer := complete (iorOp ⟨true, .ret, .one⟩ s)

/-- IOR2kr, byte `0xFD` (R205). -/
def execIor2kr (s : State) : Answer := complete (iorOp ⟨true, .ret, .two⟩ s)

/-! ## XOR -/

/-- XOR: bitwise exclusive or (45_arith_logic.md R206). -/
def xorOp (m : Mode) (s : State) : State :=
  let p := takePair m s
  push m.width m.stack (p.a ^^^ p.b) p.rest

/-- XOR, byte `0x1E` (R206). -/
def execXor (s : State) : Answer := complete (xorOp ⟨false, .working, .one⟩ s)

/-- XOR2, byte `0x3E` (R206). -/
def execXor2 (s : State) : Answer := complete (xorOp ⟨false, .working, .two⟩ s)

/-- XORr, byte `0x5E` (R206). -/
def execXorr (s : State) : Answer := complete (xorOp ⟨false, .ret, .one⟩ s)

/-- XOR2r, byte `0x7E` (R206). -/
def execXor2r (s : State) : Answer := complete (xorOp ⟨false, .ret, .two⟩ s)

/-- XORk, byte `0x9E` (R206). -/
def execXork (s : State) : Answer := complete (xorOp ⟨true, .working, .one⟩ s)

/-- XOR2k, byte `0xBE` (R206). -/
def execXor2k (s : State) : Answer := complete (xorOp ⟨true, .working, .two⟩ s)

/-- XORkr, byte `0xDE` (R206). -/
def execXorkr (s : State) : Answer := complete (xorOp ⟨true, .ret, .one⟩ s)

/-- XOR2kr, byte `0xFE` (R206). -/
def execXor2kr (s : State) : Answer := complete (xorOp ⟨true, .ret, .two⟩ s)

/-! ## SFT -/

/-- SFT: a one-byte shift amount on top, the value under it; left by bits 7:4, then right by bits 3:0, both
with zeros shifted in (45_arith_logic.md R207, D21). -/
def sftOp (m : Mode) (s : State) : State :=
  let sh := take m .one 0 s
  let v := take m m.width 1 sh.2
  push m.width m.stack ((v.1 <<< leftCount sh.1) >>> rightCount sh.1) v.2

/-- SFT, byte `0x1F` (R207). -/
def execSft (s : State) : Answer := complete (sftOp ⟨false, .working, .one⟩ s)

/-- SFT2, byte `0x3F` (R207). -/
def execSft2 (s : State) : Answer := complete (sftOp ⟨false, .working, .two⟩ s)

/-- SFTr, byte `0x5F` (R207). -/
def execSftr (s : State) : Answer := complete (sftOp ⟨false, .ret, .one⟩ s)

/-- SFT2r, byte `0x7F` (R207). -/
def execSft2r (s : State) : Answer := complete (sftOp ⟨false, .ret, .two⟩ s)

/-- SFTk, byte `0x9F` (R207). -/
def execSftk (s : State) : Answer := complete (sftOp ⟨true, .working, .one⟩ s)

/-- SFT2k, byte `0xBF` (R207). -/
def execSft2k (s : State) : Answer := complete (sftOp ⟨true, .working, .two⟩ s)

/-- SFTkr, byte `0xDF` (R207). -/
def execSftkr (s : State) : Answer := complete (sftOp ⟨true, .ret, .one⟩ s)

/-- SFT2kr, byte `0xFF` (R207). -/
def execSft2kr (s : State) : Answer := complete (sftOp ⟨true, .ret, .two⟩ s)

end Sys2Proof.Machine
end

