-- ==== Sys2Proof/Machine/CompareControl.lean ====
section
/-! DEFINITION. EQU, GTH, JMP, JCN, JSR and RTI (43_compare_control.md). -/

namespace Sys2Proof.Machine

/-! ## EQU -/

/-- EQU: one byte, 1 where the operands are equal (43_compare_control.md R170, D13). -/
def equOp (m : Mode) (s : State) : State :=
  let p := takePair m s
  push8 m.stack (truthByte (p.a == p.b)) p.rest

/-- EQU, byte `0x08` (R170). -/
def execEqu (s : State) : Answer := complete (equOp ⟨false, .working, .one⟩ s)

/-- EQU2, byte `0x28` (R170). -/
def execEqu2 (s : State) : Answer := complete (equOp ⟨false, .working, .two⟩ s)

/-- EQUr, byte `0x48` (R170). -/
def execEqur (s : State) : Answer := complete (equOp ⟨false, .ret, .one⟩ s)

/-- EQU2r, byte `0x68` (R170). -/
def execEqu2r (s : State) : Answer := complete (equOp ⟨false, .ret, .two⟩ s)

/-- EQUk, byte `0x88` (R170). -/
def execEquk (s : State) : Answer := complete (equOp ⟨true, .working, .one⟩ s)

/-- EQU2k, byte `0xA8` (R170). -/
def execEqu2k (s : State) : Answer := complete (equOp ⟨true, .working, .two⟩ s)

/-- EQUkr, byte `0xC8` (R170). -/
def execEqukr (s : State) : Answer := complete (equOp ⟨true, .ret, .one⟩ s)

/-- EQU2kr, byte `0xE8` (R170). -/
def execEqu2kr (s : State) : Answer := complete (equOp ⟨true, .ret, .two⟩ s)

/-! ## GTH -/

/-- GTH: one byte, 1 where `a > b` as two's-complement numbers (43_compare_control.md R171, D13). -/
def gthOp (m : Mode) (s : State) : State :=
  let p := takePair m s
  push8 m.stack (truthByte (decide (p.b.toInt < p.a.toInt))) p.rest

/-- GTH, byte `0x09` (R171). -/
def execGth (s : State) : Answer := complete (gthOp ⟨false, .working, .one⟩ s)

/-- GTH2, byte `0x29` (R171). -/
def execGth2 (s : State) : Answer := complete (gthOp ⟨false, .working, .two⟩ s)

/-- GTHr, byte `0x49` (R171). -/
def execGthr (s : State) : Answer := complete (gthOp ⟨false, .ret, .one⟩ s)

/-- GTH2r, byte `0x69` (R171). -/
def execGth2r (s : State) : Answer := complete (gthOp ⟨false, .ret, .two⟩ s)

/-- GTHk, byte `0x89` (R171). -/
def execGthk (s : State) : Answer := complete (gthOp ⟨true, .working, .one⟩ s)

/-- GTH2k, byte `0xA9` (R171). -/
def execGth2k (s : State) : Answer := complete (gthOp ⟨true, .working, .two⟩ s)

/-- GTHkr, byte `0xC9` (R171). -/
def execGthkr (s : State) : Answer := complete (gthOp ⟨true, .ret, .one⟩ s)

/-- GTH2kr, byte `0xE9` (R171). -/
def execGth2kr (s : State) : Answer := complete (gthOp ⟨true, .ret, .two⟩ s)

/-! ## JMP -/

/-- JMP (43_compare_control.md R173). -/
def jmpOp (m : Mode) (s : State) : State :=
  let t := target m s
  jump t.1 t.2

/-- JMP, byte `0x0A` (R173). -/
def execJmp (s : State) : Answer := complete (jmpOp ⟨false, .working, .one⟩ s)

/-- JMP2, byte `0x2A` (R173). -/
def execJmp2 (s : State) : Answer := complete (jmpOp ⟨false, .working, .two⟩ s)

/-- JMPr, byte `0x4A` (R173). -/
def execJmpr (s : State) : Answer := complete (jmpOp ⟨false, .ret, .one⟩ s)

/-- JMP2r, byte `0x6A` (R173). -/
def execJmp2r (s : State) : Answer := complete (jmpOp ⟨false, .ret, .two⟩ s)

/-- JMPk, byte `0x8A` (R173). -/
def execJmpk (s : State) : Answer := complete (jmpOp ⟨true, .working, .one⟩ s)

/-- JMP2k, byte `0xAA` (R173). -/
def execJmp2k (s : State) : Answer := complete (jmpOp ⟨true, .working, .two⟩ s)

/-- JMPkr, byte `0xCA` (R173). -/
def execJmpkr (s : State) : Answer := complete (jmpOp ⟨true, .ret, .one⟩ s)

/-- JMP2kr, byte `0xEA` (R173). -/
def execJmp2kr (s : State) : Answer := complete (jmpOp ⟨true, .ret, .two⟩ s)

/-! ## JCN -/

/-- JCN: the target first, then the one-byte condition under it (43_compare_control.md R174, D12). -/
def jcnOp (m : Mode) (s : State) : State :=
  let t := target m s
  let c := take m .one m.width.bytes t.2
  if condition c.1 then jump t.1 c.2 else c.2

/-- JCN, byte `0x0B` (R174). -/
def execJcn (s : State) : Answer := complete (jcnOp ⟨false, .working, .one⟩ s)

/-- JCN2, byte `0x2B` (R174). -/
def execJcn2 (s : State) : Answer := complete (jcnOp ⟨false, .working, .two⟩ s)

/-- JCNr, byte `0x4B` (R174). -/
def execJcnr (s : State) : Answer := complete (jcnOp ⟨false, .ret, .one⟩ s)

/-- JCN2r, byte `0x6B` (R174). -/
def execJcn2r (s : State) : Answer := complete (jcnOp ⟨false, .ret, .two⟩ s)

/-- JCNk, byte `0x8B` (R174). -/
def execJcnk (s : State) : Answer := complete (jcnOp ⟨true, .working, .one⟩ s)

/-- JCN2k, byte `0xAB` (R174). -/
def execJcn2k (s : State) : Answer := complete (jcnOp ⟨true, .working, .two⟩ s)

/-- JCNkr, byte `0xCB` (R174). -/
def execJcnkr (s : State) : Answer := complete (jcnOp ⟨true, .ret, .one⟩ s)

/-- JCN2kr, byte `0xEB` (R174). -/
def execJcn2kr (s : State) : Answer := complete (jcnOp ⟨true, .ret, .two⟩ s)

/-! ## JSR -/

/-- JSR: the return address, 16 bits at both widths, goes to the other stack (43_compare_control.md R175,
D39). -/
def jsrOp (m : Mode) (s : State) : State :=
  let t := target m s
  jump t.1 (push16 m.stack.other (s.pc + 1) t.2)

/-- JSR, byte `0x0C` (R175). -/
def execJsr (s : State) : Answer := complete (jsrOp ⟨false, .working, .one⟩ s)

/-- JSR2, byte `0x2C` (R175). -/
def execJsr2 (s : State) : Answer := complete (jsrOp ⟨false, .working, .two⟩ s)

/-- JSRr, byte `0x4C` (R175). -/
def execJsrr (s : State) : Answer := complete (jsrOp ⟨false, .ret, .one⟩ s)

/-- JSR2r, byte `0x6C` (R175). -/
def execJsr2r (s : State) : Answer := complete (jsrOp ⟨false, .ret, .two⟩ s)

/-- JSRk, byte `0x8C` (R175). -/
def execJsrk (s : State) : Answer := complete (jsrOp ⟨true, .working, .one⟩ s)

/-- JSR2k, byte `0xAC` (R175). -/
def execJsr2k (s : State) : Answer := complete (jsrOp ⟨true, .working, .two⟩ s)

/-- JSRkr, byte `0xCC` (R175). -/
def execJsrkr (s : State) : Answer := complete (jsrOp ⟨true, .ret, .one⟩ s)

/-- JSR2kr, byte `0xEC` (R175). -/
def execJsr2kr (s : State) : Answer := complete (jsrOp ⟨true, .ret, .two⟩ s)

/-! ## RTI -/

/-- RTI, byte `0x83` (43_compare_control.md R176, 30_encoding.md R93). -/
def execRti (s : State) : Answer := complete (returnWithFlags s)

end Sys2Proof.Machine
end

