-- ==== Sys2Proof/Machine/LiteralFlags.lean ====
section
/-! DEFINITION. LIT, SEC, CLC, EXT, NOP and the reserved no-ops (41_literal_flags_nop.md). -/

namespace Sys2Proof.Machine

/-! ## LIT -/

/-- LIT: the literal goes on the stack and `pc` past it, to its last byte, for the increment that follows
(41_literal_flags_nop.md R140, C9, D9). The literal was read with the fetch, before anything else
happens (40_cycle.md R117). -/
def pushLiteral (st : StackId) (w : Width) (imm : BitVec w.bits) (s : State) : State :=
  setPc (s.pc + BitVec.ofNat 16 w.bytes) (push w st imm s)

/-- LIT, byte `0x80` (R140). -/
def execLit (imm : Byte) (s : State) : Answer := complete (pushLiteral .working .one imm s)

/-- LIT2, byte `0xA0` (R140). -/
def execLit2 (imm : Addr) (s : State) : Answer := complete (pushLiteral .working .two imm s)

/-- LITr, byte `0xC0` (R140). -/
def execLitr (imm : Byte) (s : State) : Answer := complete (pushLiteral .ret .one imm s)

/-- LIT2r, byte `0xE0` (R140). -/
def execLit2r (imm : Addr) (s : State) : Answer := complete (pushLiteral .ret .two imm s)

/-! ## SEC, CLC, EXT, NOP -/

/-- SEC, byte `0x20`: C is set, bits 7:1 stay (41_literal_flags_nop.md R141, D22). -/
def execSec (s : State) : Answer := complete (setCarry true s)

/-- CLC, byte `0x40`: C is cleared, bits 7:1 stay (41_literal_flags_nop.md R142, D22). -/
def execClc (s : State) : Answer := complete (setCarry false s)

/-- EXT, byte `0x60`: a zero byte on the working stack, whatever `r` and `d` say
(41_literal_flags_nop.md R143, D10). -/
def execExt (s : State) : Answer := complete (push8 .working 0x00 s)

/-- NOP, byte `0x00`: only the increment (41_literal_flags_nop.md R144). -/
def execNop (s : State) : Answer := complete s

/-! ## The reserved no-ops -/

/-- A reserved byte: no operand, no stack movement, only the increment (41_literal_flags_nop.md R145,
30_encoding.md R98). -/
def reservedNop (s : State) : Answer := complete s

/-- RSV_01, byte `0x01` (R145). -/
def execRsv01 (s : State) : Answer := reservedNop s

/-- RSV_02, byte `0x02` (R145). -/
def execRsv02 (s : State) : Answer := reservedNop s

/-- RSV_0E, byte `0x0E` (R145). -/
def execRsv0E (s : State) : Answer := reservedNop s

/-- RSV_0F, byte `0x0F` (R145). -/
def execRsv0F (s : State) : Answer := reservedNop s

/-- RSV_21, byte `0x21` (R145). -/
def execRsv21 (s : State) : Answer := reservedNop s

/-- RSV_22, byte `0x22` (R145). -/
def execRsv22 (s : State) : Answer := reservedNop s

/-- RSV_2E, byte `0x2E` (R145). -/
def execRsv2E (s : State) : Answer := reservedNop s

/-- RSV_2F, byte `0x2F` (R145). -/
def execRsv2F (s : State) : Answer := reservedNop s

/-- RSV_41, byte `0x41` (R145). -/
def execRsv41 (s : State) : Answer := reservedNop s

/-- RSV_42, byte `0x42` (R145). -/
def execRsv42 (s : State) : Answer := reservedNop s

/-- RSV_4E, byte `0x4E` (R145). -/
def execRsv4E (s : State) : Answer := reservedNop s

/-- RSV_4F, byte `0x4F` (R145). -/
def execRsv4F (s : State) : Answer := reservedNop s

/-- RSV_61, byte `0x61` (R145). -/
def execRsv61 (s : State) : Answer := reservedNop s

/-- RSV_62, byte `0x62` (R145). -/
def execRsv62 (s : State) : Answer := reservedNop s

/-- RSV_6E, byte `0x6E` (R145). -/
def execRsv6E (s : State) : Answer := reservedNop s

/-- RSV_6F, byte `0x6F` (R145). -/
def execRsv6F (s : State) : Answer := reservedNop s

/-- RSV_81, byte `0x81` (R145). -/
def execRsv81 (s : State) : Answer := reservedNop s

/-- RSV_82, byte `0x82` (R145). -/
def execRsv82 (s : State) : Answer := reservedNop s

/-- RSV_8E, byte `0x8E` (R145). -/
def execRsv8E (s : State) : Answer := reservedNop s

/-- RSV_8F, byte `0x8F` (R145). -/
def execRsv8F (s : State) : Answer := reservedNop s

/-- RSV_A1, byte `0xA1` (R145). -/
def execRsvA1 (s : State) : Answer := reservedNop s

/-- RSV_A2, byte `0xA2` (R145). -/
def execRsvA2 (s : State) : Answer := reservedNop s

/-- RSV_AE, byte `0xAE` (R145). -/
def execRsvAE (s : State) : Answer := reservedNop s

/-- RSV_AF, byte `0xAF` (R145). -/
def execRsvAF (s : State) : Answer := reservedNop s

/-- RSV_C1, byte `0xC1` (R145). -/
def execRsvC1 (s : State) : Answer := reservedNop s

/-- RSV_C2, byte `0xC2` (R145). -/
def execRsvC2 (s : State) : Answer := reservedNop s

/-- RSV_CE, byte `0xCE` (R145). -/
def execRsvCE (s : State) : Answer := reservedNop s

/-- RSV_CF, byte `0xCF` (R145). -/
def execRsvCF (s : State) : Answer := reservedNop s

/-- RSV_E1, byte `0xE1` (R145). -/
def execRsvE1 (s : State) : Answer := reservedNop s

/-- RSV_E2, byte `0xE2` (R145). -/
def execRsvE2 (s : State) : Answer := reservedNop s

/-- RSV_EE, byte `0xEE` (R145). -/
def execRsvEE (s : State) : Answer := reservedNop s

/-- RSV_EF, byte `0xEF` (R145). -/
def execRsvEF (s : State) : Answer := reservedNop s

end Sys2Proof.Machine
end

