-- ==== Sys2Proof/Machine/MemoryAccess.lean ====
section
/-! DEFINITION. LDZ, STZ, LDR, STR, LDA and STA (44_memory_access.md). -/

namespace Sys2Proof.Machine

/-! ## The shared load and store -/

/-- A load: the address operand, the read through the router, the push (44_memory_access.md R190, R192,
R194; 40_cycle.md R117). -/
def loadOp (k : Addressing) (m : Mode) (s : State) : State :=
  let o := take m k.operand 0 s
  let v := memRead m.width (effectiveAddr k o.1 s) o.2
  push m.width m.stack v.1 v.2

/-- A store: the address operand, the value under it, the write through the router
(44_memory_access.md R191, R193, R195, D16; 40_cycle.md R117). -/
def storeOp (k : Addressing) (m : Mode) (s : State) : Flow :=
  let o := take m k.operand 0 s
  let v := take m m.width k.operand.bytes o.2
  memWrite m.width (effectiveAddr k o.1 s) v.1 v.2

/-! ## LDZ -/

/-- LDZ, byte `0x10` (R190). -/
def execLdz (s : State) : Answer := complete (loadOp .zeroPage ⟨false, .working, .one⟩ s)

/-- LDZ2, byte `0x30` (R190). -/
def execLdz2 (s : State) : Answer := complete (loadOp .zeroPage ⟨false, .working, .two⟩ s)

/-- LDZr, byte `0x50` (R190). -/
def execLdzr (s : State) : Answer := complete (loadOp .zeroPage ⟨false, .ret, .one⟩ s)

/-- LDZ2r, byte `0x70` (R190). -/
def execLdz2r (s : State) : Answer := complete (loadOp .zeroPage ⟨false, .ret, .two⟩ s)

/-- LDZk, byte `0x90` (R190). -/
def execLdzk (s : State) : Answer := complete (loadOp .zeroPage ⟨true, .working, .one⟩ s)

/-- LDZ2k, byte `0xB0` (R190). -/
def execLdz2k (s : State) : Answer := complete (loadOp .zeroPage ⟨true, .working, .two⟩ s)

/-- LDZkr, byte `0xD0` (R190). -/
def execLdzkr (s : State) : Answer := complete (loadOp .zeroPage ⟨true, .ret, .one⟩ s)

/-- LDZ2kr, byte `0xF0` (R190). -/
def execLdz2kr (s : State) : Answer := complete (loadOp .zeroPage ⟨true, .ret, .two⟩ s)

/-! ## STZ -/

/-- STZ, byte `0x11` (R191). -/
def execStz (s : State) : Answer := (storeOp .zeroPage ⟨false, .working, .one⟩ s).complete

/-- STZ2, byte `0x31` (R191). -/
def execStz2 (s : State) : Answer := (storeOp .zeroPage ⟨false, .working, .two⟩ s).complete

/-- STZr, byte `0x51` (R191). -/
def execStzr (s : State) : Answer := (storeOp .zeroPage ⟨false, .ret, .one⟩ s).complete

/-- STZ2r, byte `0x71` (R191). -/
def execStz2r (s : State) : Answer := (storeOp .zeroPage ⟨false, .ret, .two⟩ s).complete

/-- STZk, byte `0x91` (R191). -/
def execStzk (s : State) : Answer := (storeOp .zeroPage ⟨true, .working, .one⟩ s).complete

/-- STZ2k, byte `0xB1` (R191). -/
def execStz2k (s : State) : Answer := (storeOp .zeroPage ⟨true, .working, .two⟩ s).complete

/-- STZkr, byte `0xD1` (R191). -/
def execStzkr (s : State) : Answer := (storeOp .zeroPage ⟨true, .ret, .one⟩ s).complete

/-- STZ2kr, byte `0xF1` (R191). -/
def execStz2kr (s : State) : Answer := (storeOp .zeroPage ⟨true, .ret, .two⟩ s).complete

/-! ## LDR -/

/-- LDR, byte `0x12` (R192). -/
def execLdr (s : State) : Answer := complete (loadOp .relative ⟨false, .working, .one⟩ s)

/-- LDR2, byte `0x32` (R192). -/
def execLdr2 (s : State) : Answer := complete (loadOp .relative ⟨false, .working, .two⟩ s)

/-- LDRr, byte `0x52` (R192). -/
def execLdrr (s : State) : Answer := complete (loadOp .relative ⟨false, .ret, .one⟩ s)

/-- LDR2r, byte `0x72` (R192). -/
def execLdr2r (s : State) : Answer := complete (loadOp .relative ⟨false, .ret, .two⟩ s)

/-- LDRk, byte `0x92` (R192). -/
def execLdrk (s : State) : Answer := complete (loadOp .relative ⟨true, .working, .one⟩ s)

/-- LDR2k, byte `0xB2` (R192). -/
def execLdr2k (s : State) : Answer := complete (loadOp .relative ⟨true, .working, .two⟩ s)

/-- LDRkr, byte `0xD2` (R192). -/
def execLdrkr (s : State) : Answer := complete (loadOp .relative ⟨true, .ret, .one⟩ s)

/-- LDR2kr, byte `0xF2` (R192). -/
def execLdr2kr (s : State) : Answer := complete (loadOp .relative ⟨true, .ret, .two⟩ s)

/-! ## STR -/

/-- STR, byte `0x13` (R193). -/
def execStr (s : State) : Answer := (storeOp .relative ⟨false, .working, .one⟩ s).complete

/-- STR2, byte `0x33` (R193). -/
def execStr2 (s : State) : Answer := (storeOp .relative ⟨false, .working, .two⟩ s).complete

/-- STRr, byte `0x53` (R193). -/
def execStrr (s : State) : Answer := (storeOp .relative ⟨false, .ret, .one⟩ s).complete

/-- STR2r, byte `0x73` (R193). -/
def execStr2r (s : State) : Answer := (storeOp .relative ⟨false, .ret, .two⟩ s).complete

/-- STRk, byte `0x93` (R193). -/
def execStrk (s : State) : Answer := (storeOp .relative ⟨true, .working, .one⟩ s).complete

/-- STR2k, byte `0xB3` (R193). -/
def execStr2k (s : State) : Answer := (storeOp .relative ⟨true, .working, .two⟩ s).complete

/-- STRkr, byte `0xD3` (R193). -/
def execStrkr (s : State) : Answer := (storeOp .relative ⟨true, .ret, .one⟩ s).complete

/-- STR2kr, byte `0xF3` (R193). -/
def execStr2kr (s : State) : Answer := (storeOp .relative ⟨true, .ret, .two⟩ s).complete

/-! ## LDA -/

/-- LDA, byte `0x14` (R194). -/
def execLda (s : State) : Answer := complete (loadOp .absolute ⟨false, .working, .one⟩ s)

/-- LDA2, byte `0x34` (R194). -/
def execLda2 (s : State) : Answer := complete (loadOp .absolute ⟨false, .working, .two⟩ s)

/-- LDAr, byte `0x54` (R194). -/
def execLdar (s : State) : Answer := complete (loadOp .absolute ⟨false, .ret, .one⟩ s)

/-- LDA2r, byte `0x74` (R194). -/
def execLda2r (s : State) : Answer := complete (loadOp .absolute ⟨false, .ret, .two⟩ s)

/-- LDAk, byte `0x94` (R194). -/
def execLdak (s : State) : Answer := complete (loadOp .absolute ⟨true, .working, .one⟩ s)

/-- LDA2k, byte `0xB4` (R194). -/
def execLda2k (s : State) : Answer := complete (loadOp .absolute ⟨true, .working, .two⟩ s)

/-- LDAkr, byte `0xD4` (R194). -/
def execLdakr (s : State) : Answer := complete (loadOp .absolute ⟨true, .ret, .one⟩ s)

/-- LDA2kr, byte `0xF4` (R194). -/
def execLda2kr (s : State) : Answer := complete (loadOp .absolute ⟨true, .ret, .two⟩ s)

/-! ## STA -/

/-- STA, byte `0x15` (R195). -/
def execSta (s : State) : Answer := (storeOp .absolute ⟨false, .working, .one⟩ s).complete

/-- STA2, byte `0x35` (R195). -/
def execSta2 (s : State) : Answer := (storeOp .absolute ⟨false, .working, .two⟩ s).complete

/-- STAr, byte `0x55` (R195). -/
def execStar (s : State) : Answer := (storeOp .absolute ⟨false, .ret, .one⟩ s).complete

/-- STA2r, byte `0x75` (R195). -/
def execSta2r (s : State) : Answer := (storeOp .absolute ⟨false, .ret, .two⟩ s).complete

/-- STAk, byte `0x95` (R195). -/
def execStak (s : State) : Answer := (storeOp .absolute ⟨true, .working, .one⟩ s).complete

/-- STA2k, byte `0xB5` (R195). -/
def execSta2k (s : State) : Answer := (storeOp .absolute ⟨true, .working, .two⟩ s).complete

/-- STAkr, byte `0xD5` (R195). -/
def execStakr (s : State) : Answer := (storeOp .absolute ⟨true, .ret, .one⟩ s).complete

/-- STA2kr, byte `0xF5` (R195). -/
def execSta2kr (s : State) : Answer := (storeOp .absolute ⟨true, .ret, .two⟩ s).complete

end Sys2Proof.Machine
end

