-- ==== Sys2Proof/Machine/StackOps.lean ====
section
/-! DEFINITION. POP, SWP, ROT, DUP, OVR, STH, PIC and PUT (42_stack.md). -/

namespace Sys2Proof.Machine

/-! ## POP -/

/-- POP: the top operand is taken and dropped (42_stack.md R150). -/
def popOp (m : Mode) (s : State) : State := (take m m.width 0 s).2

/-- POP, byte `0x03` (R150). -/
def execPop (s : State) : Answer := complete (popOp ⟨false, .working, .one⟩ s)

/-- POP2, byte `0x23` (R150). -/
def execPop2 (s : State) : Answer := complete (popOp ⟨false, .working, .two⟩ s)

/-- POPr, byte `0x43` (R150). -/
def execPopr (s : State) : Answer := complete (popOp ⟨false, .ret, .one⟩ s)

/-- POP2r, byte `0x63` (R150). -/
def execPop2r (s : State) : Answer := complete (popOp ⟨false, .ret, .two⟩ s)

/-- POP2k, byte `0xA3` (R150). -/
def execPop2k (s : State) : Answer := complete (popOp ⟨true, .working, .two⟩ s)

/-- POPkr, byte `0xC3` (R150). -/
def execPopkr (s : State) : Answer := complete (popOp ⟨true, .ret, .one⟩ s)

/-- POP2kr, byte `0xE3` (R150). -/
def execPop2kr (s : State) : Answer := complete (popOp ⟨true, .ret, .two⟩ s)

/-! ## SWP -/

/-- SWP `( a b -- b a )` (42_stack.md R151). -/
def swpOp (m : Mode) (s : State) : State :=
  let p := takePair m s
  push m.width m.stack p.a (push m.width m.stack p.b p.rest)

/-- SWP, byte `0x04` (R151). -/
def execSwp (s : State) : Answer := complete (swpOp ⟨false, .working, .one⟩ s)

/-- SWP2, byte `0x24` (R151). -/
def execSwp2 (s : State) : Answer := complete (swpOp ⟨false, .working, .two⟩ s)

/-- SWPr, byte `0x44` (R151). -/
def execSwpr (s : State) : Answer := complete (swpOp ⟨false, .ret, .one⟩ s)

/-- SWP2r, byte `0x64` (R151). -/
def execSwp2r (s : State) : Answer := complete (swpOp ⟨false, .ret, .two⟩ s)

/-- SWPk, byte `0x84` (R151). -/
def execSwpk (s : State) : Answer := complete (swpOp ⟨true, .working, .one⟩ s)

/-- SWP2k, byte `0xA4` (R151). -/
def execSwp2k (s : State) : Answer := complete (swpOp ⟨true, .working, .two⟩ s)

/-- SWPkr, byte `0xC4` (R151). -/
def execSwpkr (s : State) : Answer := complete (swpOp ⟨true, .ret, .one⟩ s)

/-- SWP2kr, byte `0xE4` (R151). -/
def execSwp2kr (s : State) : Answer := complete (swpOp ⟨true, .ret, .two⟩ s)

/-! ## ROT -/

/-- ROT `( a b c -- b c a )` (42_stack.md R152, D14). -/
def rotOp (m : Mode) (s : State) : State :=
  let p := takePair m s
  let a := take m m.width (2 * m.width.bytes) p.rest
  push m.width m.stack a.1 (push m.width m.stack p.b (push m.width m.stack p.a a.2))

/-- ROT, byte `0x05` (R152). -/
def execRot (s : State) : Answer := complete (rotOp ⟨false, .working, .one⟩ s)

/-- ROT2, byte `0x25` (R152). -/
def execRot2 (s : State) : Answer := complete (rotOp ⟨false, .working, .two⟩ s)

/-- ROTr, byte `0x45` (R152). -/
def execRotr (s : State) : Answer := complete (rotOp ⟨false, .ret, .one⟩ s)

/-- ROT2r, byte `0x65` (R152). -/
def execRot2r (s : State) : Answer := complete (rotOp ⟨false, .ret, .two⟩ s)

/-- ROTk, byte `0x85` (R152). -/
def execRotk (s : State) : Answer := complete (rotOp ⟨true, .working, .one⟩ s)

/-- ROT2k, byte `0xA5` (R152). -/
def execRot2k (s : State) : Answer := complete (rotOp ⟨true, .working, .two⟩ s)

/-- ROTkr, byte `0xC5` (R152). -/
def execRotkr (s : State) : Answer := complete (rotOp ⟨true, .ret, .one⟩ s)

/-- ROT2kr, byte `0xE5` (R152). -/
def execRot2kr (s : State) : Answer := complete (rotOp ⟨true, .ret, .two⟩ s)

/-! ## DUP -/

/-- DUP `( a -- a a )` (42_stack.md R153). -/
def dupOp (m : Mode) (s : State) : State :=
  let a := take m m.width 0 s
  push m.width m.stack a.1 (push m.width m.stack a.1 a.2)

/-- DUP, byte `0x06` (R153). -/
def execDup (s : State) : Answer := complete (dupOp ⟨false, .working, .one⟩ s)

/-- DUP2, byte `0x26` (R153). -/
def execDup2 (s : State) : Answer := complete (dupOp ⟨false, .working, .two⟩ s)

/-- DUPr, byte `0x46` (R153). -/
def execDupr (s : State) : Answer := complete (dupOp ⟨false, .ret, .one⟩ s)

/-- DUP2r, byte `0x66` (R153). -/
def execDup2r (s : State) : Answer := complete (dupOp ⟨false, .ret, .two⟩ s)

/-- DUPk, byte `0x86` (R153). -/
def execDupk (s : State) : Answer := complete (dupOp ⟨true, .working, .one⟩ s)

/-- DUP2k, byte `0xA6` (R153). -/
def execDup2k (s : State) : Answer := complete (dupOp ⟨true, .working, .two⟩ s)

/-- DUPkr, byte `0xC6` (R153). -/
def execDupkr (s : State) : Answer := complete (dupOp ⟨true, .ret, .one⟩ s)

/-- DUP2kr, byte `0xE6` (R153). -/
def execDup2kr (s : State) : Answer := complete (dupOp ⟨true, .ret, .two⟩ s)

/-! ## OVR -/

/-- OVR `( a b -- a b a )` (42_stack.md R154). -/
def ovrOp (m : Mode) (s : State) : State :=
  let p := takePair m s
  push m.width m.stack p.a (push m.width m.stack p.b (push m.width m.stack p.a p.rest))

/-- OVR, byte `0x07` (R154). -/
def execOvr (s : State) : Answer := complete (ovrOp ⟨false, .working, .one⟩ s)

/-- OVR2, byte `0x27` (R154). -/
def execOvr2 (s : State) : Answer := complete (ovrOp ⟨false, .working, .two⟩ s)

/-- OVRr, byte `0x47` (R154). -/
def execOvrr (s : State) : Answer := complete (ovrOp ⟨false, .ret, .one⟩ s)

/-- OVR2r, byte `0x67` (R154). -/
def execOvr2r (s : State) : Answer := complete (ovrOp ⟨false, .ret, .two⟩ s)

/-- OVRk, byte `0x87` (R154). -/
def execOvrk (s : State) : Answer := complete (ovrOp ⟨true, .working, .one⟩ s)

/-- OVR2k, byte `0xA7` (R154). -/
def execOvr2k (s : State) : Answer := complete (ovrOp ⟨true, .working, .two⟩ s)

/-- OVRkr, byte `0xC7` (R154). -/
def execOvrkr (s : State) : Answer := complete (ovrOp ⟨true, .ret, .one⟩ s)

/-- OVR2kr, byte `0xE7` (R154). -/
def execOvr2kr (s : State) : Answer := complete (ovrOp ⟨true, .ret, .two⟩ s)

/-! ## STH -/

/-- STH: the top operand goes to the other stack (42_stack.md R155). -/
def sthOp (m : Mode) (s : State) : State :=
  let a := take m m.width 0 s
  push m.width m.stack.other a.1 a.2

/-- STH, byte `0x0D` (R155). -/
def execSth (s : State) : Answer := complete (sthOp ⟨false, .working, .one⟩ s)

/-- STH2, byte `0x2D` (R155). -/
def execSth2 (s : State) : Answer := complete (sthOp ⟨false, .working, .two⟩ s)

/-- STHr, byte `0x4D` (R155). -/
def execSthr (s : State) : Answer := complete (sthOp ⟨false, .ret, .one⟩ s)

/-- STH2r, byte `0x6D` (R155). -/
def execSth2r (s : State) : Answer := complete (sthOp ⟨false, .ret, .two⟩ s)

/-- STHk, byte `0x8D` (R155). -/
def execSthk (s : State) : Answer := complete (sthOp ⟨true, .working, .one⟩ s)

/-- STH2k, byte `0xAD` (R155). -/
def execSth2k (s : State) : Answer := complete (sthOp ⟨true, .working, .two⟩ s)

/-- STHkr, byte `0xCD` (R155). -/
def execSthkr (s : State) : Answer := complete (sthOp ⟨true, .ret, .one⟩ s)

/-- STH2kr, byte `0xED` (R155). -/
def execSth2kr (s : State) : Answer := complete (sthOp ⟨true, .ret, .two⟩ s)

/-! ## PIC -/

/-- PIC: a copy of the operand at a one-byte offset, counted from the stack pointer as it is after the take
(42_stack.md R156, D17). -/
def picOp (m : Mode) (s : State) : State :=
  let o := take m .one 0 s
  push m.width m.stack (peek m.width m.stack o.1.toNat o.2) o.2

/-- PIC, byte `0x16` (R156). -/
def execPic (s : State) : Answer := complete (picOp ⟨false, .working, .one⟩ s)

/-- PIC2, byte `0x36` (R156). -/
def execPic2 (s : State) : Answer := complete (picOp ⟨false, .working, .two⟩ s)

/-- PICr, byte `0x56` (R156). -/
def execPicr (s : State) : Answer := complete (picOp ⟨false, .ret, .one⟩ s)

/-- PIC2r, byte `0x76` (R156). -/
def execPic2r (s : State) : Answer := complete (picOp ⟨false, .ret, .two⟩ s)

/-- PICk, byte `0x96` (R156). -/
def execPick (s : State) : Answer := complete (picOp ⟨true, .working, .one⟩ s)

/-- PIC2k, byte `0xB6` (R156). -/
def execPic2k (s : State) : Answer := complete (picOp ⟨true, .working, .two⟩ s)

/-- PICkr, byte `0xD6` (R156). -/
def execPickr (s : State) : Answer := complete (picOp ⟨true, .ret, .one⟩ s)

/-- PIC2kr, byte `0xF6` (R156). -/
def execPic2kr (s : State) : Answer := complete (picOp ⟨true, .ret, .two⟩ s)

/-! ## PUT -/

/-- PUT: a value goes to the cell at a one-byte offset, counted from the stack pointer as it is after the
takes (42_stack.md R157, D17). -/
def putOp (m : Mode) (s : State) : State :=
  let o := take m .one 0 s
  let v := take m m.width 1 o.2
  poke m.width m.stack o.1.toNat v.1 v.2

/-- PUT, byte `0x17` (R157). -/
def execPut (s : State) : Answer := complete (putOp ⟨false, .working, .one⟩ s)

/-- PUT2, byte `0x37` (R157). -/
def execPut2 (s : State) : Answer := complete (putOp ⟨false, .working, .two⟩ s)

/-- PUTr, byte `0x57` (R157). -/
def execPutr (s : State) : Answer := complete (putOp ⟨false, .ret, .one⟩ s)

/-- PUT2r, byte `0x77` (R157). -/
def execPut2r (s : State) : Answer := complete (putOp ⟨false, .ret, .two⟩ s)

/-- PUTk, byte `0x97` (R157). -/
def execPutk (s : State) : Answer := complete (putOp ⟨true, .working, .one⟩ s)

/-- PUT2k, byte `0xB7` (R157). -/
def execPut2k (s : State) : Answer := complete (putOp ⟨true, .working, .two⟩ s)

/-- PUTkr, byte `0xD7` (R157). -/
def execPutkr (s : State) : Answer := complete (putOp ⟨true, .ret, .one⟩ s)

/-- PUT2kr, byte `0xF7` (R157). -/
def execPut2kr (s : State) : Answer := complete (putOp ⟨true, .ret, .two⟩ s)

end Sys2Proof.Machine
end

