-- ==== Sys2Proof/Machine/Dispatch.lean ====
section
/-! DEFINITION. The dispatch of 40_cycle.md R110: one arm per constructor of `Instr`, each one call of the
instruction's meaning. -/

namespace Sys2Proof.Machine

-- What an instruction does, its bytes fetched and `pc` still at its opcode (40_cycle.md R112), with
-- the end-of-instruction increment (R118).
def exec (i : Instr) (s : State) : Host.Outcome State Fault Refusal :=
  match i with
  | .nop => Sys2Proof.Machine.execNop s
  | .rsv01 => Sys2Proof.Machine.execRsv01 s
  | .rsv02 => Sys2Proof.Machine.execRsv02 s
  | .pop => Sys2Proof.Machine.execPop s
  | .swp => Sys2Proof.Machine.execSwp s
  | .rot => Sys2Proof.Machine.execRot s
  | .dup => Sys2Proof.Machine.execDup s
  | .ovr => Sys2Proof.Machine.execOvr s
  | .equ => Sys2Proof.Machine.execEqu s
  | .gth => Sys2Proof.Machine.execGth s
  | .jmp => Sys2Proof.Machine.execJmp s
  | .jcn => Sys2Proof.Machine.execJcn s
  | .jsr => Sys2Proof.Machine.execJsr s
  | .sth => Sys2Proof.Machine.execSth s
  | .rsv0E => Sys2Proof.Machine.execRsv0E s
  | .rsv0F => Sys2Proof.Machine.execRsv0F s
  | .ldz => Sys2Proof.Machine.execLdz s
  | .stz => Sys2Proof.Machine.execStz s
  | .ldr => Sys2Proof.Machine.execLdr s
  | .str => Sys2Proof.Machine.execStr s
  | .lda => Sys2Proof.Machine.execLda s
  | .sta => Sys2Proof.Machine.execSta s
  | .pic => Sys2Proof.Machine.execPic s
  | .put => Sys2Proof.Machine.execPut s
  | .adc => Sys2Proof.Machine.execAdc s
  | .sbc => Sys2Proof.Machine.execSbc s
  | .mul => Sys2Proof.Machine.execMul s
  | .dvm => Sys2Proof.Machine.execDvm s
  | .and => Sys2Proof.Machine.execAnd s
  | .ior => Sys2Proof.Machine.execIor s
  | .xor => Sys2Proof.Machine.execXor s
  | .sft => Sys2Proof.Machine.execSft s
  | .sec => Sys2Proof.Machine.execSec s
  | .rsv21 => Sys2Proof.Machine.execRsv21 s
  | .rsv22 => Sys2Proof.Machine.execRsv22 s
  | .pop2 => Sys2Proof.Machine.execPop2 s
  | .swp2 => Sys2Proof.Machine.execSwp2 s
  | .rot2 => Sys2Proof.Machine.execRot2 s
  | .dup2 => Sys2Proof.Machine.execDup2 s
  | .ovr2 => Sys2Proof.Machine.execOvr2 s
  | .equ2 => Sys2Proof.Machine.execEqu2 s
  | .gth2 => Sys2Proof.Machine.execGth2 s
  | .jmp2 => Sys2Proof.Machine.execJmp2 s
  | .jcn2 => Sys2Proof.Machine.execJcn2 s
  | .jsr2 => Sys2Proof.Machine.execJsr2 s
  | .sth2 => Sys2Proof.Machine.execSth2 s
  | .rsv2E => Sys2Proof.Machine.execRsv2E s
  | .rsv2F => Sys2Proof.Machine.execRsv2F s
  | .ldz2 => Sys2Proof.Machine.execLdz2 s
  | .stz2 => Sys2Proof.Machine.execStz2 s
  | .ldr2 => Sys2Proof.Machine.execLdr2 s
  | .str2 => Sys2Proof.Machine.execStr2 s
  | .lda2 => Sys2Proof.Machine.execLda2 s
  | .sta2 => Sys2Proof.Machine.execSta2 s
  | .pic2 => Sys2Proof.Machine.execPic2 s
  | .put2 => Sys2Proof.Machine.execPut2 s
  | .adc2 => Sys2Proof.Machine.execAdc2 s
  | .sbc2 => Sys2Proof.Machine.execSbc2 s
  | .mul2 => Sys2Proof.Machine.execMul2 s
  | .dvm2 => Sys2Proof.Machine.execDvm2 s
  | .and2 => Sys2Proof.Machine.execAnd2 s
  | .ior2 => Sys2Proof.Machine.execIor2 s
  | .xor2 => Sys2Proof.Machine.execXor2 s
  | .sft2 => Sys2Proof.Machine.execSft2 s
  | .clc => Sys2Proof.Machine.execClc s
  | .rsv41 => Sys2Proof.Machine.execRsv41 s
  | .rsv42 => Sys2Proof.Machine.execRsv42 s
  | .popr => Sys2Proof.Machine.execPopr s
  | .swpr => Sys2Proof.Machine.execSwpr s
  | .rotr => Sys2Proof.Machine.execRotr s
  | .dupr => Sys2Proof.Machine.execDupr s
  | .ovrr => Sys2Proof.Machine.execOvrr s
  | .equr => Sys2Proof.Machine.execEqur s
  | .gthr => Sys2Proof.Machine.execGthr s
  | .jmpr => Sys2Proof.Machine.execJmpr s
  | .jcnr => Sys2Proof.Machine.execJcnr s
  | .jsrr => Sys2Proof.Machine.execJsrr s
  | .sthr => Sys2Proof.Machine.execSthr s
  | .rsv4E => Sys2Proof.Machine.execRsv4E s
  | .rsv4F => Sys2Proof.Machine.execRsv4F s
  | .ldzr => Sys2Proof.Machine.execLdzr s
  | .stzr => Sys2Proof.Machine.execStzr s
  | .ldrr => Sys2Proof.Machine.execLdrr s
  | .strr => Sys2Proof.Machine.execStrr s
  | .ldar => Sys2Proof.Machine.execLdar s
  | .star => Sys2Proof.Machine.execStar s
  | .picr => Sys2Proof.Machine.execPicr s
  | .putr => Sys2Proof.Machine.execPutr s
  | .adcr => Sys2Proof.Machine.execAdcr s
  | .sbcr => Sys2Proof.Machine.execSbcr s
  | .mulr => Sys2Proof.Machine.execMulr s
  | .dvmr => Sys2Proof.Machine.execDvmr s
  | .andr => Sys2Proof.Machine.execAndr s
  | .iorr => Sys2Proof.Machine.execIorr s
  | .xorr => Sys2Proof.Machine.execXorr s
  | .sftr => Sys2Proof.Machine.execSftr s
  | .ext => Sys2Proof.Machine.execExt s
  | .rsv61 => Sys2Proof.Machine.execRsv61 s
  | .rsv62 => Sys2Proof.Machine.execRsv62 s
  | .pop2r => Sys2Proof.Machine.execPop2r s
  | .swp2r => Sys2Proof.Machine.execSwp2r s
  | .rot2r => Sys2Proof.Machine.execRot2r s
  | .dup2r => Sys2Proof.Machine.execDup2r s
  | .ovr2r => Sys2Proof.Machine.execOvr2r s
  | .equ2r => Sys2Proof.Machine.execEqu2r s
  | .gth2r => Sys2Proof.Machine.execGth2r s
  | .jmp2r => Sys2Proof.Machine.execJmp2r s
  | .jcn2r => Sys2Proof.Machine.execJcn2r s
  | .jsr2r => Sys2Proof.Machine.execJsr2r s
  | .sth2r => Sys2Proof.Machine.execSth2r s
  | .rsv6E => Sys2Proof.Machine.execRsv6E s
  | .rsv6F => Sys2Proof.Machine.execRsv6F s
  | .ldz2r => Sys2Proof.Machine.execLdz2r s
  | .stz2r => Sys2Proof.Machine.execStz2r s
  | .ldr2r => Sys2Proof.Machine.execLdr2r s
  | .str2r => Sys2Proof.Machine.execStr2r s
  | .lda2r => Sys2Proof.Machine.execLda2r s
  | .sta2r => Sys2Proof.Machine.execSta2r s
  | .pic2r => Sys2Proof.Machine.execPic2r s
  | .put2r => Sys2Proof.Machine.execPut2r s
  | .adc2r => Sys2Proof.Machine.execAdc2r s
  | .sbc2r => Sys2Proof.Machine.execSbc2r s
  | .mul2r => Sys2Proof.Machine.execMul2r s
  | .dvm2r => Sys2Proof.Machine.execDvm2r s
  | .and2r => Sys2Proof.Machine.execAnd2r s
  | .ior2r => Sys2Proof.Machine.execIor2r s
  | .xor2r => Sys2Proof.Machine.execXor2r s
  | .sft2r => Sys2Proof.Machine.execSft2r s
  | .lit imm => Sys2Proof.Machine.execLit imm s
  | .rsv81 => Sys2Proof.Machine.execRsv81 s
  | .rsv82 => Sys2Proof.Machine.execRsv82 s
  | .rti => Sys2Proof.Machine.execRti s
  | .swpk => Sys2Proof.Machine.execSwpk s
  | .rotk => Sys2Proof.Machine.execRotk s
  | .dupk => Sys2Proof.Machine.execDupk s
  | .ovrk => Sys2Proof.Machine.execOvrk s
  | .equk => Sys2Proof.Machine.execEquk s
  | .gthk => Sys2Proof.Machine.execGthk s
  | .jmpk => Sys2Proof.Machine.execJmpk s
  | .jcnk => Sys2Proof.Machine.execJcnk s
  | .jsrk => Sys2Proof.Machine.execJsrk s
  | .sthk => Sys2Proof.Machine.execSthk s
  | .rsv8E => Sys2Proof.Machine.execRsv8E s
  | .rsv8F => Sys2Proof.Machine.execRsv8F s
  | .ldzk => Sys2Proof.Machine.execLdzk s
  | .stzk => Sys2Proof.Machine.execStzk s
  | .ldrk => Sys2Proof.Machine.execLdrk s
  | .strk => Sys2Proof.Machine.execStrk s
  | .ldak => Sys2Proof.Machine.execLdak s
  | .stak => Sys2Proof.Machine.execStak s
  | .pick => Sys2Proof.Machine.execPick s
  | .putk => Sys2Proof.Machine.execPutk s
  | .adck => Sys2Proof.Machine.execAdck s
  | .sbck => Sys2Proof.Machine.execSbck s
  | .mulk => Sys2Proof.Machine.execMulk s
  | .dvmk => Sys2Proof.Machine.execDvmk s
  | .andk => Sys2Proof.Machine.execAndk s
  | .iork => Sys2Proof.Machine.execIork s
  | .xork => Sys2Proof.Machine.execXork s
  | .sftk => Sys2Proof.Machine.execSftk s
  | .lit2 imm => Sys2Proof.Machine.execLit2 imm s
  | .rsvA1 => Sys2Proof.Machine.execRsvA1 s
  | .rsvA2 => Sys2Proof.Machine.execRsvA2 s
  | .pop2k => Sys2Proof.Machine.execPop2k s
  | .swp2k => Sys2Proof.Machine.execSwp2k s
  | .rot2k => Sys2Proof.Machine.execRot2k s
  | .dup2k => Sys2Proof.Machine.execDup2k s
  | .ovr2k => Sys2Proof.Machine.execOvr2k s
  | .equ2k => Sys2Proof.Machine.execEqu2k s
  | .gth2k => Sys2Proof.Machine.execGth2k s
  | .jmp2k => Sys2Proof.Machine.execJmp2k s
  | .jcn2k => Sys2Proof.Machine.execJcn2k s
  | .jsr2k => Sys2Proof.Machine.execJsr2k s
  | .sth2k => Sys2Proof.Machine.execSth2k s
  | .rsvAE => Sys2Proof.Machine.execRsvAE s
  | .rsvAF => Sys2Proof.Machine.execRsvAF s
  | .ldz2k => Sys2Proof.Machine.execLdz2k s
  | .stz2k => Sys2Proof.Machine.execStz2k s
  | .ldr2k => Sys2Proof.Machine.execLdr2k s
  | .str2k => Sys2Proof.Machine.execStr2k s
  | .lda2k => Sys2Proof.Machine.execLda2k s
  | .sta2k => Sys2Proof.Machine.execSta2k s
  | .pic2k => Sys2Proof.Machine.execPic2k s
  | .put2k => Sys2Proof.Machine.execPut2k s
  | .adc2k => Sys2Proof.Machine.execAdc2k s
  | .sbc2k => Sys2Proof.Machine.execSbc2k s
  | .mul2k => Sys2Proof.Machine.execMul2k s
  | .dvm2k => Sys2Proof.Machine.execDvm2k s
  | .and2k => Sys2Proof.Machine.execAnd2k s
  | .ior2k => Sys2Proof.Machine.execIor2k s
  | .xor2k => Sys2Proof.Machine.execXor2k s
  | .sft2k => Sys2Proof.Machine.execSft2k s
  | .litr imm => Sys2Proof.Machine.execLitr imm s
  | .rsvC1 => Sys2Proof.Machine.execRsvC1 s
  | .rsvC2 => Sys2Proof.Machine.execRsvC2 s
  | .popkr => Sys2Proof.Machine.execPopkr s
  | .swpkr => Sys2Proof.Machine.execSwpkr s
  | .rotkr => Sys2Proof.Machine.execRotkr s
  | .dupkr => Sys2Proof.Machine.execDupkr s
  | .ovrkr => Sys2Proof.Machine.execOvrkr s
  | .equkr => Sys2Proof.Machine.execEqukr s
  | .gthkr => Sys2Proof.Machine.execGthkr s
  | .jmpkr => Sys2Proof.Machine.execJmpkr s
  | .jcnkr => Sys2Proof.Machine.execJcnkr s
  | .jsrkr => Sys2Proof.Machine.execJsrkr s
  | .sthkr => Sys2Proof.Machine.execSthkr s
  | .rsvCE => Sys2Proof.Machine.execRsvCE s
  | .rsvCF => Sys2Proof.Machine.execRsvCF s
  | .ldzkr => Sys2Proof.Machine.execLdzkr s
  | .stzkr => Sys2Proof.Machine.execStzkr s
  | .ldrkr => Sys2Proof.Machine.execLdrkr s
  | .strkr => Sys2Proof.Machine.execStrkr s
  | .ldakr => Sys2Proof.Machine.execLdakr s
  | .stakr => Sys2Proof.Machine.execStakr s
  | .pickr => Sys2Proof.Machine.execPickr s
  | .putkr => Sys2Proof.Machine.execPutkr s
  | .adckr => Sys2Proof.Machine.execAdckr s
  | .sbckr => Sys2Proof.Machine.execSbckr s
  | .mulkr => Sys2Proof.Machine.execMulkr s
  | .dvmkr => Sys2Proof.Machine.execDvmkr s
  | .andkr => Sys2Proof.Machine.execAndkr s
  | .iorkr => Sys2Proof.Machine.execIorkr s
  | .xorkr => Sys2Proof.Machine.execXorkr s
  | .sftkr => Sys2Proof.Machine.execSftkr s
  | .lit2r imm => Sys2Proof.Machine.execLit2r imm s
  | .rsvE1 => Sys2Proof.Machine.execRsvE1 s
  | .rsvE2 => Sys2Proof.Machine.execRsvE2 s
  | .pop2kr => Sys2Proof.Machine.execPop2kr s
  | .swp2kr => Sys2Proof.Machine.execSwp2kr s
  | .rot2kr => Sys2Proof.Machine.execRot2kr s
  | .dup2kr => Sys2Proof.Machine.execDup2kr s
  | .ovr2kr => Sys2Proof.Machine.execOvr2kr s
  | .equ2kr => Sys2Proof.Machine.execEqu2kr s
  | .gth2kr => Sys2Proof.Machine.execGth2kr s
  | .jmp2kr => Sys2Proof.Machine.execJmp2kr s
  | .jcn2kr => Sys2Proof.Machine.execJcn2kr s
  | .jsr2kr => Sys2Proof.Machine.execJsr2kr s
  | .sth2kr => Sys2Proof.Machine.execSth2kr s
  | .rsvEE => Sys2Proof.Machine.execRsvEE s
  | .rsvEF => Sys2Proof.Machine.execRsvEF s
  | .ldz2kr => Sys2Proof.Machine.execLdz2kr s
  | .stz2kr => Sys2Proof.Machine.execStz2kr s
  | .ldr2kr => Sys2Proof.Machine.execLdr2kr s
  | .str2kr => Sys2Proof.Machine.execStr2kr s
  | .lda2kr => Sys2Proof.Machine.execLda2kr s
  | .sta2kr => Sys2Proof.Machine.execSta2kr s
  | .pic2kr => Sys2Proof.Machine.execPic2kr s
  | .put2kr => Sys2Proof.Machine.execPut2kr s
  | .adc2kr => Sys2Proof.Machine.execAdc2kr s
  | .sbc2kr => Sys2Proof.Machine.execSbc2kr s
  | .mul2kr => Sys2Proof.Machine.execMul2kr s
  | .dvm2kr => Sys2Proof.Machine.execDvm2kr s
  | .and2kr => Sys2Proof.Machine.execAnd2kr s
  | .ior2kr => Sys2Proof.Machine.execIor2kr s
  | .xor2kr => Sys2Proof.Machine.execXor2kr s
  | .sft2kr => Sys2Proof.Machine.execSft2kr s

end Sys2Proof.Machine
end

