-- ==== Sys2Proof/Decode.lean ====
section
/-! DEFINITION. The decoder (30_encoding.md R90 to R100), total on any bytes, and after it the encoder.
The decoder follows the pseudocode of R93 and the table of R94; the encoder is written from the map
of R95, one byte per instruction, so that their agreement says something. -/

namespace Sys2Proof

/-! ## The form of an instruction: base operation and mode -/

/-- `BASE[op](k, r, d)` of 30_encoding.md R93, named as R95 names it. Byte `0x83`, op 3 with keep
alone, is RTI (R92, R93). -/
def form (op : BaseOp) (m : Mode) : Instr :=
  match op, m with
  | .pop, ⟨false, .working, .one⟩ => .pop
  | .pop, ⟨false, .working, .two⟩ => .pop2
  | .pop, ⟨false, .ret, .one⟩ => .popr
  | .pop, ⟨false, .ret, .two⟩ => .pop2r
  | .pop, ⟨true, .working, .one⟩ => .rti
  | .pop, ⟨true, .working, .two⟩ => .pop2k
  | .pop, ⟨true, .ret, .one⟩ => .popkr
  | .pop, ⟨true, .ret, .two⟩ => .pop2kr
  | .swp, ⟨false, .working, .one⟩ => .swp
  | .swp, ⟨false, .working, .two⟩ => .swp2
  | .swp, ⟨false, .ret, .one⟩ => .swpr
  | .swp, ⟨false, .ret, .two⟩ => .swp2r
  | .swp, ⟨true, .working, .one⟩ => .swpk
  | .swp, ⟨true, .working, .two⟩ => .swp2k
  | .swp, ⟨true, .ret, .one⟩ => .swpkr
  | .swp, ⟨true, .ret, .two⟩ => .swp2kr
  | .rot, ⟨false, .working, .one⟩ => .rot
  | .rot, ⟨false, .working, .two⟩ => .rot2
  | .rot, ⟨false, .ret, .one⟩ => .rotr
  | .rot, ⟨false, .ret, .two⟩ => .rot2r
  | .rot, ⟨true, .working, .one⟩ => .rotk
  | .rot, ⟨true, .working, .two⟩ => .rot2k
  | .rot, ⟨true, .ret, .one⟩ => .rotkr
  | .rot, ⟨true, .ret, .two⟩ => .rot2kr
  | .dup, ⟨false, .working, .one⟩ => .dup
  | .dup, ⟨false, .working, .two⟩ => .dup2
  | .dup, ⟨false, .ret, .one⟩ => .dupr
  | .dup, ⟨false, .ret, .two⟩ => .dup2r
  | .dup, ⟨true, .working, .one⟩ => .dupk
  | .dup, ⟨true, .working, .two⟩ => .dup2k
  | .dup, ⟨true, .ret, .one⟩ => .dupkr
  | .dup, ⟨true, .ret, .two⟩ => .dup2kr
  | .ovr, ⟨false, .working, .one⟩ => .ovr
  | .ovr, ⟨false, .working, .two⟩ => .ovr2
  | .ovr, ⟨false, .ret, .one⟩ => .ovrr
  | .ovr, ⟨false, .ret, .two⟩ => .ovr2r
  | .ovr, ⟨true, .working, .one⟩ => .ovrk
  | .ovr, ⟨true, .working, .two⟩ => .ovr2k
  | .ovr, ⟨true, .ret, .one⟩ => .ovrkr
  | .ovr, ⟨true, .ret, .two⟩ => .ovr2kr
  | .equ, ⟨false, .working, .one⟩ => .equ
  | .equ, ⟨false, .working, .two⟩ => .equ2
  | .equ, ⟨false, .ret, .one⟩ => .equr
  | .equ, ⟨false, .ret, .two⟩ => .equ2r
  | .equ, ⟨true, .working, .one⟩ => .equk
  | .equ, ⟨true, .working, .two⟩ => .equ2k
  | .equ, ⟨true, .ret, .one⟩ => .equkr
  | .equ, ⟨true, .ret, .two⟩ => .equ2kr
  | .gth, ⟨false, .working, .one⟩ => .gth
  | .gth, ⟨false, .working, .two⟩ => .gth2
  | .gth, ⟨false, .ret, .one⟩ => .gthr
  | .gth, ⟨false, .ret, .two⟩ => .gth2r
  | .gth, ⟨true, .working, .one⟩ => .gthk
  | .gth, ⟨true, .working, .two⟩ => .gth2k
  | .gth, ⟨true, .ret, .one⟩ => .gthkr
  | .gth, ⟨true, .ret, .two⟩ => .gth2kr
  | .jmp, ⟨false, .working, .one⟩ => .jmp
  | .jmp, ⟨false, .working, .two⟩ => .jmp2
  | .jmp, ⟨false, .ret, .one⟩ => .jmpr
  | .jmp, ⟨false, .ret, .two⟩ => .jmp2r
  | .jmp, ⟨true, .working, .one⟩ => .jmpk
  | .jmp, ⟨true, .working, .two⟩ => .jmp2k
  | .jmp, ⟨true, .ret, .one⟩ => .jmpkr
  | .jmp, ⟨true, .ret, .two⟩ => .jmp2kr
  | .jcn, ⟨false, .working, .one⟩ => .jcn
  | .jcn, ⟨false, .working, .two⟩ => .jcn2
  | .jcn, ⟨false, .ret, .one⟩ => .jcnr
  | .jcn, ⟨false, .ret, .two⟩ => .jcn2r
  | .jcn, ⟨true, .working, .one⟩ => .jcnk
  | .jcn, ⟨true, .working, .two⟩ => .jcn2k
  | .jcn, ⟨true, .ret, .one⟩ => .jcnkr
  | .jcn, ⟨true, .ret, .two⟩ => .jcn2kr
  | .jsr, ⟨false, .working, .one⟩ => .jsr
  | .jsr, ⟨false, .working, .two⟩ => .jsr2
  | .jsr, ⟨false, .ret, .one⟩ => .jsrr
  | .jsr, ⟨false, .ret, .two⟩ => .jsr2r
  | .jsr, ⟨true, .working, .one⟩ => .jsrk
  | .jsr, ⟨true, .working, .two⟩ => .jsr2k
  | .jsr, ⟨true, .ret, .one⟩ => .jsrkr
  | .jsr, ⟨true, .ret, .two⟩ => .jsr2kr
  | .sth, ⟨false, .working, .one⟩ => .sth
  | .sth, ⟨false, .working, .two⟩ => .sth2
  | .sth, ⟨false, .ret, .one⟩ => .sthr
  | .sth, ⟨false, .ret, .two⟩ => .sth2r
  | .sth, ⟨true, .working, .one⟩ => .sthk
  | .sth, ⟨true, .working, .two⟩ => .sth2k
  | .sth, ⟨true, .ret, .one⟩ => .sthkr
  | .sth, ⟨true, .ret, .two⟩ => .sth2kr
  | .ldz, ⟨false, .working, .one⟩ => .ldz
  | .ldz, ⟨false, .working, .two⟩ => .ldz2
  | .ldz, ⟨false, .ret, .one⟩ => .ldzr
  | .ldz, ⟨false, .ret, .two⟩ => .ldz2r
  | .ldz, ⟨true, .working, .one⟩ => .ldzk
  | .ldz, ⟨true, .working, .two⟩ => .ldz2k
  | .ldz, ⟨true, .ret, .one⟩ => .ldzkr
  | .ldz, ⟨true, .ret, .two⟩ => .ldz2kr
  | .stz, ⟨false, .working, .one⟩ => .stz
  | .stz, ⟨false, .working, .two⟩ => .stz2
  | .stz, ⟨false, .ret, .one⟩ => .stzr
  | .stz, ⟨false, .ret, .two⟩ => .stz2r
  | .stz, ⟨true, .working, .one⟩ => .stzk
  | .stz, ⟨true, .working, .two⟩ => .stz2k
  | .stz, ⟨true, .ret, .one⟩ => .stzkr
  | .stz, ⟨true, .ret, .two⟩ => .stz2kr
  | .ldr, ⟨false, .working, .one⟩ => .ldr
  | .ldr, ⟨false, .working, .two⟩ => .ldr2
  | .ldr, ⟨false, .ret, .one⟩ => .ldrr
  | .ldr, ⟨false, .ret, .two⟩ => .ldr2r
  | .ldr, ⟨true, .working, .one⟩ => .ldrk
  | .ldr, ⟨true, .working, .two⟩ => .ldr2k
  | .ldr, ⟨true, .ret, .one⟩ => .ldrkr
  | .ldr, ⟨true, .ret, .two⟩ => .ldr2kr
  | .str, ⟨false, .working, .one⟩ => .str
  | .str, ⟨false, .working, .two⟩ => .str2
  | .str, ⟨false, .ret, .one⟩ => .strr
  | .str, ⟨false, .ret, .two⟩ => .str2r
  | .str, ⟨true, .working, .one⟩ => .strk
  | .str, ⟨true, .working, .two⟩ => .str2k
  | .str, ⟨true, .ret, .one⟩ => .strkr
  | .str, ⟨true, .ret, .two⟩ => .str2kr
  | .lda, ⟨false, .working, .one⟩ => .lda
  | .lda, ⟨false, .working, .two⟩ => .lda2
  | .lda, ⟨false, .ret, .one⟩ => .ldar
  | .lda, ⟨false, .ret, .two⟩ => .lda2r
  | .lda, ⟨true, .working, .one⟩ => .ldak
  | .lda, ⟨true, .working, .two⟩ => .lda2k
  | .lda, ⟨true, .ret, .one⟩ => .ldakr
  | .lda, ⟨true, .ret, .two⟩ => .lda2kr
  | .sta, ⟨false, .working, .one⟩ => .sta
  | .sta, ⟨false, .working, .two⟩ => .sta2
  | .sta, ⟨false, .ret, .one⟩ => .star
  | .sta, ⟨false, .ret, .two⟩ => .sta2r
  | .sta, ⟨true, .working, .one⟩ => .stak
  | .sta, ⟨true, .working, .two⟩ => .sta2k
  | .sta, ⟨true, .ret, .one⟩ => .stakr
  | .sta, ⟨true, .ret, .two⟩ => .sta2kr
  | .pic, ⟨false, .working, .one⟩ => .pic
  | .pic, ⟨false, .working, .two⟩ => .pic2
  | .pic, ⟨false, .ret, .one⟩ => .picr
  | .pic, ⟨false, .ret, .two⟩ => .pic2r
  | .pic, ⟨true, .working, .one⟩ => .pick
  | .pic, ⟨true, .working, .two⟩ => .pic2k
  | .pic, ⟨true, .ret, .one⟩ => .pickr
  | .pic, ⟨true, .ret, .two⟩ => .pic2kr
  | .put, ⟨false, .working, .one⟩ => .put
  | .put, ⟨false, .working, .two⟩ => .put2
  | .put, ⟨false, .ret, .one⟩ => .putr
  | .put, ⟨false, .ret, .two⟩ => .put2r
  | .put, ⟨true, .working, .one⟩ => .putk
  | .put, ⟨true, .working, .two⟩ => .put2k
  | .put, ⟨true, .ret, .one⟩ => .putkr
  | .put, ⟨true, .ret, .two⟩ => .put2kr
  | .adc, ⟨false, .working, .one⟩ => .adc
  | .adc, ⟨false, .working, .two⟩ => .adc2
  | .adc, ⟨false, .ret, .one⟩ => .adcr
  | .adc, ⟨false, .ret, .two⟩ => .adc2r
  | .adc, ⟨true, .working, .one⟩ => .adck
  | .adc, ⟨true, .working, .two⟩ => .adc2k
  | .adc, ⟨true, .ret, .one⟩ => .adckr
  | .adc, ⟨true, .ret, .two⟩ => .adc2kr
  | .sbc, ⟨false, .working, .one⟩ => .sbc
  | .sbc, ⟨false, .working, .two⟩ => .sbc2
  | .sbc, ⟨false, .ret, .one⟩ => .sbcr
  | .sbc, ⟨false, .ret, .two⟩ => .sbc2r
  | .sbc, ⟨true, .working, .one⟩ => .sbck
  | .sbc, ⟨true, .working, .two⟩ => .sbc2k
  | .sbc, ⟨true, .ret, .one⟩ => .sbckr
  | .sbc, ⟨true, .ret, .two⟩ => .sbc2kr
  | .mul, ⟨false, .working, .one⟩ => .mul
  | .mul, ⟨false, .working, .two⟩ => .mul2
  | .mul, ⟨false, .ret, .one⟩ => .mulr
  | .mul, ⟨false, .ret, .two⟩ => .mul2r
  | .mul, ⟨true, .working, .one⟩ => .mulk
  | .mul, ⟨true, .working, .two⟩ => .mul2k
  | .mul, ⟨true, .ret, .one⟩ => .mulkr
  | .mul, ⟨true, .ret, .two⟩ => .mul2kr
  | .dvm, ⟨false, .working, .one⟩ => .dvm
  | .dvm, ⟨false, .working, .two⟩ => .dvm2
  | .dvm, ⟨false, .ret, .one⟩ => .dvmr
  | .dvm, ⟨false, .ret, .two⟩ => .dvm2r
  | .dvm, ⟨true, .working, .one⟩ => .dvmk
  | .dvm, ⟨true, .working, .two⟩ => .dvm2k
  | .dvm, ⟨true, .ret, .one⟩ => .dvmkr
  | .dvm, ⟨true, .ret, .two⟩ => .dvm2kr
  | .and, ⟨false, .working, .one⟩ => .and
  | .and, ⟨false, .working, .two⟩ => .and2
  | .and, ⟨false, .ret, .one⟩ => .andr
  | .and, ⟨false, .ret, .two⟩ => .and2r
  | .and, ⟨true, .working, .one⟩ => .andk
  | .and, ⟨true, .working, .two⟩ => .and2k
  | .and, ⟨true, .ret, .one⟩ => .andkr
  | .and, ⟨true, .ret, .two⟩ => .and2kr
  | .ior, ⟨false, .working, .one⟩ => .ior
  | .ior, ⟨false, .working, .two⟩ => .ior2
  | .ior, ⟨false, .ret, .one⟩ => .iorr
  | .ior, ⟨false, .ret, .two⟩ => .ior2r
  | .ior, ⟨true, .working, .one⟩ => .iork
  | .ior, ⟨true, .working, .two⟩ => .ior2k
  | .ior, ⟨true, .ret, .one⟩ => .iorkr
  | .ior, ⟨true, .ret, .two⟩ => .ior2kr
  | .xor, ⟨false, .working, .one⟩ => .xor
  | .xor, ⟨false, .working, .two⟩ => .xor2
  | .xor, ⟨false, .ret, .one⟩ => .xorr
  | .xor, ⟨false, .ret, .two⟩ => .xor2r
  | .xor, ⟨true, .working, .one⟩ => .xork
  | .xor, ⟨true, .working, .two⟩ => .xor2k
  | .xor, ⟨true, .ret, .one⟩ => .xorkr
  | .xor, ⟨true, .ret, .two⟩ => .xor2kr
  | .sft, ⟨false, .working, .one⟩ => .sft
  | .sft, ⟨false, .working, .two⟩ => .sft2
  | .sft, ⟨false, .ret, .one⟩ => .sftr
  | .sft, ⟨false, .ret, .two⟩ => .sft2r
  | .sft, ⟨true, .working, .one⟩ => .sftk
  | .sft, ⟨true, .working, .two⟩ => .sft2k
  | .sft, ⟨true, .ret, .one⟩ => .sftkr
  | .sft, ⟨true, .ret, .two⟩ => .sft2kr

/-- The reserved no-op of a reserved base operation under a mode (30_encoding.md R95, R98). -/
def reservedForm (op : ReservedOp) (m : Mode) : Instr :=
  match op, m with
  | .op1, ⟨false, .working, .one⟩ => .rsv01
  | .op1, ⟨false, .working, .two⟩ => .rsv21
  | .op1, ⟨false, .ret, .one⟩ => .rsv41
  | .op1, ⟨false, .ret, .two⟩ => .rsv61
  | .op1, ⟨true, .working, .one⟩ => .rsv81
  | .op1, ⟨true, .working, .two⟩ => .rsvA1
  | .op1, ⟨true, .ret, .one⟩ => .rsvC1
  | .op1, ⟨true, .ret, .two⟩ => .rsvE1
  | .op2, ⟨false, .working, .one⟩ => .rsv02
  | .op2, ⟨false, .working, .two⟩ => .rsv22
  | .op2, ⟨false, .ret, .one⟩ => .rsv42
  | .op2, ⟨false, .ret, .two⟩ => .rsv62
  | .op2, ⟨true, .working, .one⟩ => .rsv82
  | .op2, ⟨true, .working, .two⟩ => .rsvA2
  | .op2, ⟨true, .ret, .one⟩ => .rsvC2
  | .op2, ⟨true, .ret, .two⟩ => .rsvE2
  | .opE, ⟨false, .working, .one⟩ => .rsv0E
  | .opE, ⟨false, .working, .two⟩ => .rsv2E
  | .opE, ⟨false, .ret, .one⟩ => .rsv4E
  | .opE, ⟨false, .ret, .two⟩ => .rsv6E
  | .opE, ⟨true, .working, .one⟩ => .rsv8E
  | .opE, ⟨true, .working, .two⟩ => .rsvAE
  | .opE, ⟨true, .ret, .one⟩ => .rsvCE
  | .opE, ⟨true, .ret, .two⟩ => .rsvEE
  | .opF, ⟨false, .working, .one⟩ => .rsv0F
  | .opF, ⟨false, .working, .two⟩ => .rsv2F
  | .opF, ⟨false, .ret, .one⟩ => .rsv4F
  | .opF, ⟨false, .ret, .two⟩ => .rsv6F
  | .opF, ⟨true, .working, .one⟩ => .rsv8F
  | .opF, ⟨true, .working, .two⟩ => .rsvAF
  | .opF, ⟨true, .ret, .one⟩ => .rsvCF
  | .opF, ⟨true, .ret, .two⟩ => .rsvEF

/-- LIT on a stack, with a literal of a width (30_encoding.md R93 `LIT(r, d)`). -/
def litForm (st : StackId) (w : Width) (imm : BitVec w.bits) : Instr :=
  match st, w, imm with
  | .working, .one, v => .lit v
  | .working, .two, v => .lit2 v
  | .ret, .one, v => .litr v
  | .ret, .two, v => .lit2r v

/-! ## Decoding -/

/-- The mode bits of an opcode byte (30_encoding.md R91). -/
def modeOf (b : Byte) : Mode where
  keep := b.getLsbD 7
  stack := if b.getLsbD 6 then .ret else .working
  width := if b.getLsbD 5 then .two else .one

/-- What bits 4:0 of an opcode byte select (30_encoding.md R94). -/
inductive OpGroup where
  | zero
  | reserved (op : ReservedOp)
  | base (op : BaseOp)
  deriving DecidableEq, Repr, Inhabited

/-- The table of 30_encoding.md R94, by `op`. -/
def opTable : Vector OpGroup 32 := #v[
  .zero, .reserved .op1, .reserved .op2, .base .pop,
  .base .swp, .base .rot, .base .dup, .base .ovr,
  .base .equ, .base .gth, .base .jmp, .base .jcn,
  .base .jsr, .base .sth, .reserved .opE, .reserved .opF,
  .base .ldz, .base .stz, .base .ldr, .base .str,
  .base .lda, .base .sta, .base .pic, .base .put,
  .base .adc, .base .sbc, .base .mul, .base .dvm,
  .base .and, .base .ior, .base .xor, .base .sft]

/-- Bits 4:0 of an opcode byte (30_encoding.md R91). -/
def opBits (b : Byte) : Fin 32 := ⟨b.toNat % 32, by omega⟩

/-- What the first byte of an instruction says: the whole instruction, or a LIT whose literal of a
given width follows it (30_encoding.md R90, R93). -/
inductive Head where
  | whole (i : Instr)
  | literal (st : StackId) (w : Width)
  deriving DecidableEq, Repr

/-- Op 0 with `k` = 0: one of NOP, SEC, CLC and EXT (30_encoding.md R93). -/
def opZero (m : Mode) : Instr :=
  match m.stack, m.width with
  | .working, .one => .nop
  | .working, .two => .sec
  | .ret, .one => .clc
  | .ret, .two => .ext

/-- `decode(b)` of 30_encoding.md R93: a total function of the opcode byte. -/
def decodeHead (b : Byte) : Head :=
  if b = 0x83 then .whole .rti
  else
    match opTable.get (opBits b) with
    | .zero =>
      if (modeOf b).keep then .literal (modeOf b).stack (modeOf b).width
      else .whole (opZero (modeOf b))
    | .reserved op => .whole (reservedForm op (modeOf b))
    | .base op => .whole (form op (modeOf b))

/-- The length in bytes of the instruction that begins with byte `b` (30_encoding.md R90, R100). -/
def instrLength (b : Byte) : Nat :=
  match decodeHead b with
  | .whole _ => 1
  | .literal _ w => 1 + w.bytes

/-- Why a list of bytes begins with no instruction. No byte value is refused (30_encoding.md R98):
the bytes can only end too soon. The machine itself never meets this, since memory has no end. -/
inductive DecodeError where
  /-- There is no opcode byte. -/
  | noOpcode
  /-- A LIT stands without all of its literal (30_encoding.md R90). -/
  | literalCutShort
  deriving DecidableEq, Repr

/-- Reads one instruction off a list of bytes and answers it with the bytes after it. The literal of
LIT2 is big-endian, high byte first (30_encoding.md R96, D9). -/
def decode (bs : List Byte) : Except DecodeError (Instr × List Byte) :=
  match bs with
  | [] => .error .noOpcode
  | b :: rest =>
    match decodeHead b, rest with
    | .whole i, rest => .ok (i, rest)
    | .literal st .one, v :: rest => .ok (litForm st .one v, rest)
    | .literal st .two, hi :: lo :: rest => .ok (litForm st .two (Machine.hiLo hi lo), rest)
    | .literal _ .one, [] => .error .literalCutShort
    | .literal _ .two, [] => .error .literalCutShort
    | .literal _ .two, [_] => .error .literalCutShort

/-- The instruction whose bits are `w`, numbered as spec/opcode_table.json numbers them: the first byte
is bits 7 to 0, the second bits 15 to 8, the third bits 23 to 16; the bits from `nbits` up are 0. -/
def tableBytes (nbits w : Nat) : List Byte :=
  [BitVec.ofNat 8 (w % 2 ^ nbits), BitVec.ofNat 8 (w % 2 ^ nbits / 2 ^ 8),
    BitVec.ofNat 8 (w % 2 ^ nbits / 2 ^ 16)]

/-- What the decoder reads from those bytes. -/
def decodeTableWord (nbits w : Nat) : Option Instr :=
  match decode (tableBytes nbits w) with
  | .ok (i, _) => some i
  | .error _ => none

/-! ## Encoding -/

/-- The opcode byte of an instruction: the map of 30_encoding.md R95. -/
def opcodeByte (i : Instr) : Byte :=
  match i with
  | .nop => 0x00
  | .rsv01 => 0x01
  | .rsv02 => 0x02
  | .pop => 0x03
  | .swp => 0x04
  | .rot => 0x05
  | .dup => 0x06
  | .ovr => 0x07
  | .equ => 0x08
  | .gth => 0x09
  | .jmp => 0x0A
  | .jcn => 0x0B
  | .jsr => 0x0C
  | .sth => 0x0D
  | .rsv0E => 0x0E
  | .rsv0F => 0x0F
  | .ldz => 0x10
  | .stz => 0x11
  | .ldr => 0x12
  | .str => 0x13
  | .lda => 0x14
  | .sta => 0x15
  | .pic => 0x16
  | .put => 0x17
  | .adc => 0x18
  | .sbc => 0x19
  | .mul => 0x1A
  | .dvm => 0x1B
  | .and => 0x1C
  | .ior => 0x1D
  | .xor => 0x1E
  | .sft => 0x1F
  | .sec => 0x20
  | .rsv21 => 0x21
  | .rsv22 => 0x22
  | .pop2 => 0x23
  | .swp2 => 0x24
  | .rot2 => 0x25
  | .dup2 => 0x26
  | .ovr2 => 0x27
  | .equ2 => 0x28
  | .gth2 => 0x29
  | .jmp2 => 0x2A
  | .jcn2 => 0x2B
  | .jsr2 => 0x2C
  | .sth2 => 0x2D
  | .rsv2E => 0x2E
  | .rsv2F => 0x2F
  | .ldz2 => 0x30
  | .stz2 => 0x31
  | .ldr2 => 0x32
  | .str2 => 0x33
  | .lda2 => 0x34
  | .sta2 => 0x35
  | .pic2 => 0x36
  | .put2 => 0x37
  | .adc2 => 0x38
  | .sbc2 => 0x39
  | .mul2 => 0x3A
  | .dvm2 => 0x3B
  | .and2 => 0x3C
  | .ior2 => 0x3D
  | .xor2 => 0x3E
  | .sft2 => 0x3F
  | .clc => 0x40
  | .rsv41 => 0x41
  | .rsv42 => 0x42
  | .popr => 0x43
  | .swpr => 0x44
  | .rotr => 0x45
  | .dupr => 0x46
  | .ovrr => 0x47
  | .equr => 0x48
  | .gthr => 0x49
  | .jmpr => 0x4A
  | .jcnr => 0x4B
  | .jsrr => 0x4C
  | .sthr => 0x4D
  | .rsv4E => 0x4E
  | .rsv4F => 0x4F
  | .ldzr => 0x50
  | .stzr => 0x51
  | .ldrr => 0x52
  | .strr => 0x53
  | .ldar => 0x54
  | .star => 0x55
  | .picr => 0x56
  | .putr => 0x57
  | .adcr => 0x58
  | .sbcr => 0x59
  | .mulr => 0x5A
  | .dvmr => 0x5B
  | .andr => 0x5C
  | .iorr => 0x5D
  | .xorr => 0x5E
  | .sftr => 0x5F
  | .ext => 0x60
  | .rsv61 => 0x61
  | .rsv62 => 0x62
  | .pop2r => 0x63
  | .swp2r => 0x64
  | .rot2r => 0x65
  | .dup2r => 0x66
  | .ovr2r => 0x67
  | .equ2r => 0x68
  | .gth2r => 0x69
  | .jmp2r => 0x6A
  | .jcn2r => 0x6B
  | .jsr2r => 0x6C
  | .sth2r => 0x6D
  | .rsv6E => 0x6E
  | .rsv6F => 0x6F
  | .ldz2r => 0x70
  | .stz2r => 0x71
  | .ldr2r => 0x72
  | .str2r => 0x73
  | .lda2r => 0x74
  | .sta2r => 0x75
  | .pic2r => 0x76
  | .put2r => 0x77
  | .adc2r => 0x78
  | .sbc2r => 0x79
  | .mul2r => 0x7A
  | .dvm2r => 0x7B
  | .and2r => 0x7C
  | .ior2r => 0x7D
  | .xor2r => 0x7E
  | .sft2r => 0x7F
  | .lit _ => 0x80
  | .rsv81 => 0x81
  | .rsv82 => 0x82
  | .rti => 0x83
  | .swpk => 0x84
  | .rotk => 0x85
  | .dupk => 0x86
  | .ovrk => 0x87
  | .equk => 0x88
  | .gthk => 0x89
  | .jmpk => 0x8A
  | .jcnk => 0x8B
  | .jsrk => 0x8C
  | .sthk => 0x8D
  | .rsv8E => 0x8E
  | .rsv8F => 0x8F
  | .ldzk => 0x90
  | .stzk => 0x91
  | .ldrk => 0x92
  | .strk => 0x93
  | .ldak => 0x94
  | .stak => 0x95
  | .pick => 0x96
  | .putk => 0x97
  | .adck => 0x98
  | .sbck => 0x99
  | .mulk => 0x9A
  | .dvmk => 0x9B
  | .andk => 0x9C
  | .iork => 0x9D
  | .xork => 0x9E
  | .sftk => 0x9F
  | .lit2 _ => 0xA0
  | .rsvA1 => 0xA1
  | .rsvA2 => 0xA2
  | .pop2k => 0xA3
  | .swp2k => 0xA4
  | .rot2k => 0xA5
  | .dup2k => 0xA6
  | .ovr2k => 0xA7
  | .equ2k => 0xA8
  | .gth2k => 0xA9
  | .jmp2k => 0xAA
  | .jcn2k => 0xAB
  | .jsr2k => 0xAC
  | .sth2k => 0xAD
  | .rsvAE => 0xAE
  | .rsvAF => 0xAF
  | .ldz2k => 0xB0
  | .stz2k => 0xB1
  | .ldr2k => 0xB2
  | .str2k => 0xB3
  | .lda2k => 0xB4
  | .sta2k => 0xB5
  | .pic2k => 0xB6
  | .put2k => 0xB7
  | .adc2k => 0xB8
  | .sbc2k => 0xB9
  | .mul2k => 0xBA
  | .dvm2k => 0xBB
  | .and2k => 0xBC
  | .ior2k => 0xBD
  | .xor2k => 0xBE
  | .sft2k => 0xBF
  | .litr _ => 0xC0
  | .rsvC1 => 0xC1
  | .rsvC2 => 0xC2
  | .popkr => 0xC3
  | .swpkr => 0xC4
  | .rotkr => 0xC5
  | .dupkr => 0xC6
  | .ovrkr => 0xC7
  | .equkr => 0xC8
  | .gthkr => 0xC9
  | .jmpkr => 0xCA
  | .jcnkr => 0xCB
  | .jsrkr => 0xCC
  | .sthkr => 0xCD
  | .rsvCE => 0xCE
  | .rsvCF => 0xCF
  | .ldzkr => 0xD0
  | .stzkr => 0xD1
  | .ldrkr => 0xD2
  | .strkr => 0xD3
  | .ldakr => 0xD4
  | .stakr => 0xD5
  | .pickr => 0xD6
  | .putkr => 0xD7
  | .adckr => 0xD8
  | .sbckr => 0xD9
  | .mulkr => 0xDA
  | .dvmkr => 0xDB
  | .andkr => 0xDC
  | .iorkr => 0xDD
  | .xorkr => 0xDE
  | .sftkr => 0xDF
  | .lit2r _ => 0xE0
  | .rsvE1 => 0xE1
  | .rsvE2 => 0xE2
  | .pop2kr => 0xE3
  | .swp2kr => 0xE4
  | .rot2kr => 0xE5
  | .dup2kr => 0xE6
  | .ovr2kr => 0xE7
  | .equ2kr => 0xE8
  | .gth2kr => 0xE9
  | .jmp2kr => 0xEA
  | .jcn2kr => 0xEB
  | .jsr2kr => 0xEC
  | .sth2kr => 0xED
  | .rsvEE => 0xEE
  | .rsvEF => 0xEF
  | .ldz2kr => 0xF0
  | .stz2kr => 0xF1
  | .ldr2kr => 0xF2
  | .str2kr => 0xF3
  | .lda2kr => 0xF4
  | .sta2kr => 0xF5
  | .pic2kr => 0xF6
  | .put2kr => 0xF7
  | .adc2kr => 0xF8
  | .sbc2kr => 0xF9
  | .mul2kr => 0xFA
  | .dvm2kr => 0xFB
  | .and2kr => 0xFC
  | .ior2kr => 0xFD
  | .xor2kr => 0xFE
  | .sft2kr => 0xFF

/-- The literal bytes of an instruction, in the order they stand in memory (30_encoding.md R96). -/
def literalBytes (i : Instr) : List Byte :=
  match i with
  | .lit v => [v]
  | .litr v => [v]
  | .lit2 v => [Machine.hiByte v, Machine.loByte v]
  | .lit2r v => [Machine.hiByte v, Machine.loByte v]
  | .nop | .rsv01 | .rsv02 | .pop | .swp | .rot | .dup | .ovr | .equ | .gth | .jmp | .jcn
  | .jsr | .sth | .rsv0E | .rsv0F | .ldz | .stz | .ldr | .str | .lda | .sta | .pic | .put
  | .adc | .sbc | .mul | .dvm | .and | .ior | .xor | .sft | .sec | .rsv21 | .rsv22 | .pop2
  | .swp2 | .rot2 | .dup2 | .ovr2 | .equ2 | .gth2 | .jmp2 | .jcn2 | .jsr2 | .sth2 | .rsv2E | .rsv2F
  | .ldz2 | .stz2 | .ldr2 | .str2 | .lda2 | .sta2 | .pic2 | .put2 | .adc2 | .sbc2 | .mul2 | .dvm2
  | .and2 | .ior2 | .xor2 | .sft2 | .clc | .rsv41 | .rsv42 | .popr | .swpr | .rotr | .dupr | .ovrr
  | .equr | .gthr | .jmpr | .jcnr | .jsrr | .sthr | .rsv4E | .rsv4F | .ldzr | .stzr | .ldrr | .strr
  | .ldar | .star | .picr | .putr | .adcr | .sbcr | .mulr | .dvmr | .andr | .iorr | .xorr | .sftr
  | .ext | .rsv61 | .rsv62 | .pop2r | .swp2r | .rot2r | .dup2r | .ovr2r | .equ2r | .gth2r | .jmp2r | .jcn2r
  | .jsr2r | .sth2r | .rsv6E | .rsv6F | .ldz2r | .stz2r | .ldr2r | .str2r | .lda2r | .sta2r | .pic2r | .put2r
  | .adc2r | .sbc2r | .mul2r | .dvm2r | .and2r | .ior2r | .xor2r | .sft2r | .rsv81 | .rsv82 | .rti | .swpk
  | .rotk | .dupk | .ovrk | .equk | .gthk | .jmpk | .jcnk | .jsrk | .sthk | .rsv8E | .rsv8F | .ldzk
  | .stzk | .ldrk | .strk | .ldak | .stak | .pick | .putk | .adck | .sbck | .mulk | .dvmk | .andk
  | .iork | .xork | .sftk | .rsvA1 | .rsvA2 | .pop2k | .swp2k | .rot2k | .dup2k | .ovr2k | .equ2k | .gth2k
  | .jmp2k | .jcn2k | .jsr2k | .sth2k | .rsvAE | .rsvAF | .ldz2k | .stz2k | .ldr2k | .str2k | .lda2k | .sta2k
  | .pic2k | .put2k | .adc2k | .sbc2k | .mul2k | .dvm2k | .and2k | .ior2k | .xor2k | .sft2k | .rsvC1 | .rsvC2
  | .popkr | .swpkr | .rotkr | .dupkr | .ovrkr | .equkr | .gthkr | .jmpkr | .jcnkr | .jsrkr | .sthkr | .rsvCE
  | .rsvCF | .ldzkr | .stzkr | .ldrkr | .strkr | .ldakr | .stakr | .pickr | .putkr | .adckr | .sbckr | .mulkr
  | .dvmkr | .andkr | .iorkr | .xorkr | .sftkr | .rsvE1 | .rsvE2 | .pop2kr | .swp2kr | .rot2kr | .dup2kr | .ovr2kr
  | .equ2kr | .gth2kr | .jmp2kr | .jcn2kr | .jsr2kr | .sth2kr | .rsvEE | .rsvEF | .ldz2kr | .stz2kr | .ldr2kr | .str2kr
  | .lda2kr | .sta2kr | .pic2kr | .put2kr | .adc2kr | .sbc2kr | .mul2kr | .dvm2kr | .and2kr | .ior2kr | .xor2kr | .sft2kr => []

/-- The bytes of an instruction: its opcode byte, then its literal (30_encoding.md R90). -/
def encode (i : Instr) : List Byte := opcodeByte i :: literalBytes i

end Sys2Proof
end

