-- ==== Sys2Proof/Machine/Fetch.lean ====
section
/-! DEFINITION. Fetching an instruction (40_cycle.md R111, 30_encoding.md R96), and placing one where the
next step fetches it. -/

namespace Sys2Proof.Machine

/-- Reads the literal that follows the opcode at `pc`, through the router (41_literal_flags_nop.md R140,
D27). -/
def fetchLiteral (st : StackId) (w : Width) (s : State) : Instr × State :=
  let v := memRead w (s.pc + 1) s
  (litForm st w v.1, v.2)

/-- Reads the opcode byte at `pc` through the router, and for a LIT its literal after it
(40_cycle.md R110, R111, R117). -/
def fetch (s : State) : Instr × State :=
  let b := read8 s.pc s
  match decodeHead b.1 with
  | .whole i => (i, b.2)
  | .literal st w => fetchLiteral st w b.2

/-- The bytes at consecutive addresses from `a` on, wrapping modulo 65536, where they are RAM. -/
def placeBytes (a : Addr) (bytes : List Byte) (s : State) : State :=
  match bytes with
  | [] => s
  | b :: rest => placeBytes (a + 1) rest (if isRam a then ramWrite a b s else s)

/-- `s` running, with the bytes of an instruction at `pc`. A `pc` in the device region is not served: there
the device supplies the byte (40_cycle.md R111; log entry 8). -/
def placeInstruction (bytes : List Byte) (s : State) : State :=
  { placeBytes s.pc bytes s with status := .running }

end Sys2Proof.Machine
end

