-- ==== Sys2Proof/Machine/Step.lean ====
section
/-! DEFINITION. One step of the machine (00_scope.md R10, 40_cycle.md R110). -/

namespace Sys2Proof.Machine

/-- `step()`: a machine that is not running changes nothing; a running one fetches one instruction and
executes it (40_cycle.md R110). -/
def step (s : State) : Host.Outcome State Fault Refusal :=
  match s.status with
  | .running => exec (fetch s).1 (fetch s).2
  | .halted _ => .next s
  | .faulted _ _ => .next s

/-- `s` with the instruction whose bits are `w` where the next step fetches it, and running (log entry 8). -/
def State.withFetchWord (s : State) (nbits w : Nat) : State :=
  placeInstruction (tableBytes nbits w) s

end Sys2Proof.Machine
end

