-- ==== Sys2Proof/Machine/Construct.lean ====
section
/-! DEFINITION. Construction, the machine's one reset (70_reset_and_hazards.md R250 to R255): the placement
list and the image are checked, then the slot table is built and RAM filled. -/

namespace Sys2Proof.Machine

/-- The parameters `MANDATORY_KIND` and `DEVICE_KINDS`, which the spec leaves open (00_scope.md R8): an
argument of construction. `accepts kind options` is the kind's own check of its options
(70_reset_and_hazards.md R251). -/
structure DeviceKinds where
  mandatory : KindId
  known : List KindId
  accepts : KindId → List String → Bool

/-- An entry of the placement list (00_scope.md R11). -/
structure Placement where
  slot : Nat
  kind : KindId
  options : List String
  deriving DecidableEq, Repr

/-- The configuration errors (70_reset_and_hazards.md R251, R254). -/
inductive ConfigError where
  | slotZero
  | duplicateMandatory
  | slotOutOfRange
  | duplicateSlot
  | unknownKind
  | badOptions
  | imageTooLarge
  deriving DecidableEq, Repr

/-- An error where a condition holds. -/
def errorIf (c : Bool) (e : ConfigError) : List ConfigError := if c then [e] else []

/-- Every error that applies to an entry, given the slots of the entries before it
(70_reset_and_hazards.md R251; log entry 9). -/
def entryErrors (P : DeviceKinds) (earlier : List Nat) (p : Placement) : List ConfigError :=
  errorIf (p.slot == 0) .slotZero ++
  errorIf (p.kind == P.mandatory) .duplicateMandatory ++
  errorIf (decide (15 < p.slot)) .slotOutOfRange ++
  errorIf (earlier.contains p.slot) .duplicateSlot ++
  errorIf (!P.known.contains p.kind) .unknownKind ++
  errorIf (P.known.contains p.kind && !P.accepts p.kind p.options) .badOptions

/-- Every error of a placement list (70_reset_and_hazards.md R251). -/
def placementErrors (P : DeviceKinds) (earlier : List Nat) (ps : List Placement) : List ConfigError :=
  match ps with
  | [] => []
  | p :: rest => entryErrors P earlier p ++ placementErrors P (p.slot :: earlier) rest

/-- The bytes of RAM from `LOAD_OFFSET` up to the device region: 64512 (70_reset_and_hazards.md R254). -/
def imageCapacity : Nat := Config.devBase.toNat - Config.loadOffset.toNat

/-- Every error of a configuration (70_reset_and_hazards.md R251, R254). -/
def configErrors (P : DeviceKinds) (image : List Byte) (ps : List Placement) : List ConfigError :=
  placementErrors P [] ps ++ errorIf (decide (imageCapacity < image.length)) .imageTooLarge

/-- An accepted entry fills its slot (70_reset_and_hazards.md R253). -/
def placeDevice (t : Vector (Option KindId) 16) (p : Placement) : Vector (Option KindId) 16 :=
  if h : p.slot < 16 then t.set p.slot (some p.kind) h else t

/-- The slot table: slot 0 holds the mandatory device, each entry its slot (70_reset_and_hazards.md
R253). -/
def slotTable (P : DeviceKinds) (ps : List Placement) : Vector (Option KindId) 16 :=
  ps.foldl placeDevice ((Vector.replicate 16 none).set 0 (some P.mandatory))

/-- The image copied verbatim into zero RAM, from an address on (70_reset_and_hazards.md R254). -/
def loadImage (a : Nat) (image : List Byte) (m : Memory) : Memory :=
  match image with
  | [] => m
  | b :: rest => loadImage (a + 1) rest (m.write a b)

/-- Construction (70_reset_and_hazards.md R250): the machine right after reset, or all the errors that
apply. The machine reports one of those errors, and which one is open (D38; log entry 9); with any
error it does not start (R252). -/
def construct (P : DeviceKinds) (image : List Byte) (ps : List Placement) :
    Except (List ConfigError) State :=
  if configErrors P image ps = [] then
    .ok { State.reset with
      slots := slotTable P ps
      ram := loadImage Config.loadOffset.toNat image [] }
  else .error (configErrors P image ps)

end Sys2Proof.Machine
end

