-- ==== Sys2Proof/Safety.lean ====
section
/-! DEFINITION. The terms the statements use: what the driver sees of a step (00_scope.md R10), the invariant
of the machine, safe runs, and the state an instruction leaves after taking its operands. -/

namespace Sys2Proof.Machine

/-- What `step()` returns to the driver (00_scope.md R10). -/
inductive DriverResult where
  | stepped
  | halted (code : ExitCode)
  | faulted (cause : Cause) (pc : Addr)
  deriving DecidableEq, Repr

/-- The result that goes with the status a step leaves (00_scope.md R10, 40_cycle.md R110). -/
def Status.result (st : Status) : DriverResult :=
  match st with
  | .running => .stepped
  | .halted code => .halted code
  | .faulted cause pc => .faulted cause pc

/-- What the driver gets from a step: `none` where the step does not return (20_memory.md R72). -/
def driverResult (s : State) : Option DriverResult :=
  match step s with
  | .next t => some t.status.result
  | .fault _ => none
  | .refused _ => none

/-- The invariant of the machine: RAM is in its canonical form, slot 0 is populated (10_state.md R29), and
`last_dma_source` names a populated slot (92_eei_decisions.md D33). -/
def Inv (s : State) : Prop :=
  s.ram.wf = true ∧ present 0 s = true ∧ ∀ slot, s.lastDmaSource = some slot → present slot s = true

/-- A run of `k` steps that is never refused: no DMA chain outruns the fuel. -/
def safeFor (k : Nat) (s : State) : Bool :=
  match k with
  | 0 => true
  | n + 1 =>
    match step s with
    | .next t => safeFor n t
    | .fault _ => false
    | .refused _ => false

/-- The state after an instruction has taken `c` cells of its stack: with keep it is unchanged, else the
stack pointer has moved past them (40_cycle.md R114, 10_state.md R32). -/
def dropCells (m : Mode) (c : Nat) (s : State) : State :=
  if m.keep then s else setSp m.stack (sp m.stack s + BitVec.ofNat 8 c) s

/-- The bytes stand at consecutive addresses from `a` on, all of them in RAM. -/
def bytesAt (a : Addr) (bytes : List Byte) (s : State) : Prop :=
  match bytes with
  | [] => True
  | b :: rest => isRam a = true ∧ ramRead a s = b ∧ bytesAt (a + 1) rest s

end Sys2Proof.Machine
end

