-- ==== Sys2Proof/WellFormed.lean ====
section
/-! DEFINITION. Well-formedness. Every term of `Instr` is an instruction of the machine: no encoding is
illegal (30_encoding.md R98), and the type of a literal carries its width. What can be ill formed is
a pair of a base operation and a mode that names no form of that operation, and a list of bytes that
is not the bytes of one instruction; `Instr.wellFormed` is the second check on an instruction's own
bytes. -/

namespace Sys2Proof

/-- A base operation under a mode is a form of that operation, but for op 3 with keep alone, whose
byte `0x83` is RTI and not POPk (30_encoding.md R92, R93, R99). -/
def wellFormedForm (op : BaseOp) (m : Mode) : Bool :=
  !(op == .pop && m == ⟨true, .working, .one⟩)

/-- The bytes are those of exactly one instruction: as many as its first byte says, no fewer and no
more (30_encoding.md R90). -/
def wellFormedBytes (bs : List Byte) : Bool :=
  match bs with
  | [] => false
  | b :: rest => rest.length + 1 == instrLength b

/-- An instruction is well formed when its encoding is the bytes of exactly one instruction. -/
def Instr.wellFormed (i : Instr) : Bool := wellFormedBytes (encode i)

end Sys2Proof
end

