-- ==== Sys2Proof/Certificates/Slice0/Obligations.lean ====
section
/-! DEFINITION. The statements about the machine. Each names the rule of spec/ it formalises. A statement about a
family of forms quantifies over the mode `m`, so it holds of each of the family's opcode bytes. -/

namespace Sys2Proof.Machine

/-! ## The vocabulary of the statements -/

/-- The opcode byte of a base operation number under a mode: `op`, plus `0x20` for `d`, `0x40` for `r`,
`0x80` for `k` (30_encoding.md R91). -/
def opByte (op : Nat) (m : Mode) : Byte :=
  BitVec.ofNat 8 (op + (if m.width = .two then 0x20 else 0) + (if m.stack = .ret then 0x40 else 0) +
    (if m.keep then 0x80 else 0))

/-- The operand nearest the top, `b` of `( a b -- )` (40_cycle.md R115). -/
def top (m : Mode) (s : State) : BitVec m.width.bits := peek m.width m.stack 0 s

/-- The operand under it, `a` of `( a b -- )` (40_cycle.md R115). -/
def second (m : Mode) (s : State) : BitVec m.width.bits := peek m.width m.stack m.width.bytes s

/-- The third operand, `a` of `( a b c -- )`. -/
def third (m : Mode) (s : State) : BitVec m.width.bits := peek m.width m.stack (2 * m.width.bytes) s

/-- The operand under a one-byte one, `v` of `( v o -- )`. -/
def underByte (m : Mode) (s : State) : BitVec m.width.bits := peek m.width m.stack 1 s

/-- The state after `k` operands of the mode's width were taken. -/
def dropOperands (m : Mode) (k : Nat) (s : State) : State := dropCells m (k * m.width.bytes) s

/-- A result of the mode's width, pushed on the mode's stack. -/
def pushResult (m : Mode) (v : BitVec m.width.bits) (s : State) : State := push m.width m.stack v s

/-- Where a jump goes: the 16-bit operand, or the opcode address plus the signed 8-bit one
(43_compare_control.md R172). -/
def jumpTarget (m : Mode) (s : State) : Addr :=
  match m.width with
  | .one => s.pc + sext16 (peek8 m.stack 0 s)
  | .two => peek16 m.stack 0 s

/-- The value of a width that stands in RAM at an address, high byte first (20_memory.md R56). -/
def loaded (w : Width) (a : Addr) (s : State) : BitVec w.bits :=
  match w with
  | .one => ramRead a s
  | .two => hiLo (ramRead a s) (ramRead (a + 1) s)

/-- RAM with a value of a width at an address, high byte first (20_memory.md R57). -/
def stored (w : Width) (a : Addr) (v : BitVec w.bits) (s : State) : State :=
  match w, v with
  | .one, v => ramWrite a v s
  | .two, v => ramWrite (a + 1) (loByte v) (ramWrite a (hiByte v) s)

/-- Every byte of an access of a width at an address is in RAM. -/
def inRam (w : Width) (a : Addr) : Bool :=
  match w with
  | .one => isRam a
  | .two => isRam a && isRam (a + 1)

/-- An address is one of the bytes of an access of a width. -/
def touches (w : Width) (a : Addr) (b : Nat) : Prop :=
  b = a.toNat ∨ (w = .two ∧ b = (a + 1).toNat)

/-- An address is one of the `n` cells that pushes onto a stack write from a stack pointer on. -/
def pushedCell (st : StackId) (from_ : Byte) (n : Nat) (b : Nat) : Prop :=
  ∃ k, k < n ∧ b = (cellAddr st (from_ - BitVec.ofNat 8 k)).toNat

/-- What no instruction but a store or a device access changes: the bus state, the run status and the
model's own fields. -/
def sameBus (s t : State) : Prop :=
  t.lastDmaSource = s.lastDmaSource ∧ t.slots = s.slots ∧ t.status = s.status ∧
  t.readInputs = s.readInputs ∧ t.writeInputs = s.writeInputs ∧ t.busTrace = s.busTrace ∧
  t.dmaFuel = s.dmaFuel

/-- The state after a device write request was made, with the answer taken. -/
def afterRequest (slot : Slot) (port : Port) (v : Byte) (s : State) : State :=
  { s with writeInputs := s.writeInputs.tail, busTrace := s.busTrace ++ [.write slot port v] }

/-- The base operations that touch one stack only, and no other memory. -/
def ownStackOps : List BaseOp :=
  [.pop, .swp, .rot, .dup, .ovr, .equ, .gth, .jmp, .jcn, .ldz, .pic, .adc, .sbc, .mul, .dvm, .and,
    .ior, .xor, .sft]

/-- How many cells such an operation takes, at an operand size `n`. -/
def cellsTaken (op : BaseOp) (n : Nat) : Nat :=
  match op with
  | .pop | .dup | .jmp | .sth | .jsr => n
  | .rot => 3 * n
  | .jcn | .sft | .put | .stz | .str => n + 1
  | .sta => n + 2
  | .ldz | .ldr | .pic => 1
  | .lda => 2
  | .swp | .ovr | .equ | .gth | .adc | .sbc | .mul | .dvm | .and | .ior | .xor => 2 * n

/-- How many cells it pushes, at an operand size `n`. -/
def cellsPushed (op : BaseOp) (n : Nat) : Nat :=
  match op with
  | .pop | .jmp | .jcn | .put | .stz | .str | .sta => 0
  | .equ | .gth => 1
  | .ldz | .ldr | .lda | .pic | .sth | .adc | .sbc | .mul | .and | .ior | .xor | .sft => n
  | .jsr => 2
  | .swp | .dup | .dvm => 2 * n
  | .rot | .ovr => 3 * n

/-- Pushes a list of bytes, the first one first. -/
def pushAll (st : StackId) (vs : List Byte) (s : State) : State :=
  match vs with
  | [] => s
  | v :: rest => pushAll st rest (push8 st v s)

/-- Pops so many bytes, the topmost first. -/
def popAll (st : StackId) (n : Nat) (s : State) : List Byte × State :=
  match n with
  | 0 => ([], s)
  | k + 1 =>
    let b := pop8 st s
    let rest := popAll st k b.2
    (b.1 :: rest.1, rest.2)

/-- An instruction that can move the program counter elsewhere than to the next byte: LIT, JMP, JCN, JSR and
RTI (40_cycle.md R121). -/
def movesPc (i : Instr) : Prop :=
  (∃ st w v, i = litForm st w v) ∨ i = .rti ∨ ∃ op m, op ∈ [BaseOp.jmp, .jcn, .jsr] ∧ i = form op m

/-- An address operand, and the address it designates, of a store. -/
def storeAddr (op : BaseOp) (m : Mode) (s : State) : Addr :=
  match op with
  | .stz => zext16 (peek8 m.stack 0 s)
  | .str => s.pc + sext16 (peek8 m.stack 0 s)
  | _ => peek16 m.stack 0 s

end Sys2Proof.Machine

open Sys2Proof Sys2Proof.Machine

/-! ## Encoding -/

/-- 30_encoding.md R90, R93: decoding the bytes of an instruction gives it back and leaves what follows. -/
def Obligations.DecodeOfEncodeIsTheInstruction : Prop :=
  ∀ (i : Instr) (rest : List Byte), i.wellFormed = true → decode (encode i ++ rest) = .ok (i, rest)

/-- 30_encoding.md R93, R98: the bytes of one instruction, whatever they are, decode to an instruction whose
encoding they are. -/
def Obligations.EncodeOfDecodeIsTheBytes : Prop :=
  ∀ bs : List Byte, wellFormedBytes bs = true → ∃ i, decode bs = .ok (i, []) ∧ encode i = bs

/-- 30_encoding.md R90: the length of an instruction is decided by its first byte, and decoding takes as many bytes. -/
def Obligations.InstructionLengthByOpcodeByte : Prop :=
  (∀ b : Byte, instrLength b =
    if b = 0x80 ∨ b = 0xC0 then 2 else if b = 0xA0 ∨ b = 0xE0 then 3 else 1) ∧
  ∀ (b : Byte) (bs rest : List Byte) (i : Instr), decode (b :: bs) = .ok (i, rest) →
    (b :: bs).length = instrLength b + rest.length

/-- 30_encoding.md R91, R93, R95: words written out from the encoding decode to what they stand for. -/
def Obligations.WrittenOutWordsDecode : Prop :=
  decode [0x00] = .ok (.nop, []) ∧ decode [0x20] = .ok (.sec, []) ∧ decode [0x40] = .ok (.clc, []) ∧
  decode [0x60] = .ok (.ext, []) ∧ decode [0x83] = .ok (.rti, []) ∧
  decode [0x80, 0x12] = .ok (.lit 0x12, []) ∧ decode [0xA0, 0x12, 0x34] = .ok (.lit2 0x1234, []) ∧
  decode [0xA3] = .ok (.pop2k, []) ∧ decode [0x6A] = .ok (.jmp2r, []) ∧
  decode [0x35] = .ok (.sta2, []) ∧ decode [0xF8] = .ok (.adc2kr, []) ∧ decode [0xAF] = .ok (.rsvAF, [])

/-- 41_literal_flags_nop.md R145, 30_encoding.md R98: every byte with `op` 1, 2, 0xe or 0xf is a reserved no-op,
and a reserved no-op changes nothing but the program counter. -/
def Obligations.ReservedBytesAreNoOps : Prop :=
  (∀ b : Byte, (opBits b).val ∈ [1, 2, 14, 15] → ∃ op m, decodeHead b = .whole (reservedForm op m)) ∧
  ∀ (op : ReservedOp) (m : Mode) (s : State), exec (reservedForm op m) s = .next (setPc (s.pc + 1) s)

/-! ## The step -/

/-- 40_cycle.md R110, 00_scope.md R10: a stopped machine's step changes nothing and returns its status. -/
def Obligations.StoppedStepChangesNothing : Prop :=
  ∀ s : State, s.status ≠ .running → step s = .next s ∧ driverResult s = some s.status.result

/-- 40_cycle.md R110 to R112: where the bytes at `pc`, in RAM, decode to an instruction, a running machine's
step is that instruction's execution at this very state, `pc` still at the opcode. -/
def Obligations.StepRunsTheDecodedInstruction : Prop :=
  ∀ (s : State) (bs : List Byte) (i : Instr), s.status = .running → bytesAt s.pc bs s →
    decode bs = .ok (i, []) → i.wellFormed = true → step s = exec i s

/-- 40_cycle.md R111: an opcode in the device region is the byte the addressed device answers, and 0, a NOP, from an
unpopulated slot. -/
def Obligations.FetchInTheDeviceRegion : Prop :=
  ∀ s : State, s.status = .running → isRam s.pc = false →
    (present (busSlot (loByte s.pc)) s = false → step s = .next (setPc (s.pc + 1) s)) ∧
    (present (busSlot (loByte s.pc)) s = true → ∀ i,
      decodeHead (readAnswer (busSlot (loByte s.pc)) (busPort (loByte s.pc)) s) = .whole i →
      step s = exec i { s with
        readInputs := s.readInputs.tail
        busTrace := s.busTrace ++ [.read (busSlot (loByte s.pc)) (busPort (loByte s.pc))] })

/-- 41_literal_flags_nop.md R140: LIT pushes the literal that follows the opcode, read through the router, and goes
on after it; and the four bytes are LIT. -/
def Obligations.LitPushesTheBytesAfterTheOpcode : Prop :=
  (decodeHead 0x80 = .literal .working .one ∧ decodeHead 0xA0 = .literal .working .two ∧
    decodeHead 0xC0 = .literal .ret .one ∧ decodeHead 0xE0 = .literal .ret .two) ∧
  (∀ (st : StackId) (w : Width) (imm : BitVec w.bits) (s : State),
    exec (litForm st w imm) s = .next (setPc (s.pc + BitVec.ofNat 16 (w.bytes + 1)) (push w st imm s))) ∧
  ∀ (st : StackId) (w : Width) (s : State), s.status = .running →
    decodeHead (read8 s.pc s).1 = .literal st w →
    step s = .next (setPc (s.pc + BitVec.ofNat 16 (w.bytes + 1))
      (push w st (memRead w (s.pc + 1) (read8 s.pc s).2).1 (memRead w (s.pc + 1) (read8 s.pc s).2).2))

/-- 40_cycle.md R121: an instruction that completes, and is no jump, LIT or RTI, leaves the next fetch at `pc + 1`. -/
def Obligations.PlainInstructionsGoToTheNextByte : Prop :=
  ∀ (i : Instr) (s t : State), s.status = .running → exec i s = .next t → t.status = .running →
    ¬ movesPc i → t.pc = s.pc + 1

/-! ## Memory and stacks -/

/-- 10_state.md R27: in canonical form, memories that read alike are the same data. -/
def Obligations.MemoriesThatReadAlikeAreEqual : Prop :=
  ∀ m m' : Memory, m.wf = true → m'.wf = true → (∀ a, m.read a = m'.read a) → m = m'

/-- 20_memory.md R56, R57, R58, R76: in RAM a 16-bit write puts the high byte at the address and the low byte after it,
nothing else changes, and a 16-bit read gives the value back. At every address, device region or not, a
16-bit access is the two byte accesses, the one at `a` first, the other at `a + 1` modulo 65536 in the state
the first left; a second write does not happen where the first halts. So a read at `0xFFFF` ends in
RAM cell 0, and a write at `0xFEFF` begins in RAM and ends at bus address `0x00`. -/
def Obligations.WordsInRamAreBigEndian : Prop :=
  (∀ (fuel : Nat) (a v : Addr) (s : State), isRam a = true → isRam (a + 1) = true →
    ∃ t, write16 fuel a v s = .done t ∧ ramRead a t = hiByte v ∧ ramRead (a + 1) t = loByte v ∧
      read16 a t = (v, t) ∧ t = { s with ram := t.ram } ∧
      ∀ b, ¬ touches .two a b → t.ram.read b = s.ram.read b) ∧
  (∀ (a : Addr) (s t u : State) (hi lo : Byte), read8 a s = (hi, t) → read8 (a + 1) t = (lo, u) →
    read16 a s = (hiLo hi lo, u)) ∧
  (∀ (fuel : Nat) (a v : Addr) (s : State),
    (∀ t, write8 fuel a (hiByte v) s = .done t → write16 fuel a v s = write8 fuel (a + 1) (loByte v) t) ∧
    ((∀ t, write8 fuel a (hiByte v) s ≠ .done t) → write16 fuel a v s = write8 fuel a (hiByte v) s)) ∧
  ∀ (fuel : Nat) (v : Addr) (s : State),
    read16 0xFFFF s = (hiLo (busRead 0xFF s).1 (ramRead 0x0000 s), (busRead 0xFF s).2) ∧
    write16 fuel 0xFEFF v s = write8 fuel 0xFF00 (loByte v) (ramWrite 0xFEFF (hiByte v) s)

/-- 20_memory.md R61, R62: a read of the device region is the populated slot's answer, recorded as one request, and 0 from an
unpopulated slot; a write to an unpopulated slot has no effect at all. The answer and its record are the
model's fields (log entries 4 and 5). -/
def Obligations.DevicePortAccess : Prop :=
  ∀ (a : Addr) (s : State), isRam a = false →
    (present (busSlot (loByte a)) s = true →
      read8 a s = (readAnswer (busSlot (loByte a)) (busPort (loByte a)) s,
        { s with
          readInputs := s.readInputs.tail
          busTrace := s.busTrace ++ [.read (busSlot (loByte a)) (busPort (loByte a))] })) ∧
    (present (busSlot (loByte a)) s = false →
      read8 a s = (0x00, s) ∧ ∀ fuel v, write8 fuel a v s = .done s)

/-- 10_state.md R31, R34, R38: a push writes the cells at the stack pointer and below it, low byte first, moves the
pointer by as many, and changes nothing else; R32, R35: a pop of the same width gives the value back, and the
pointer is where it was. -/
def Obligations.PushThenPop : Prop :=
  ∀ (st : StackId) (s : State),
    (∀ v : Byte, (push8 st v s).ram.read (cellAddr st (sp st s)).toNat = v ∧
      push8 st v s = setSp st (sp st s - 1) { s with ram := (push8 st v s).ram } ∧
      ∀ b, ¬ pushedCell st (sp st s) 1 b → (push8 st v s).ram.read b = s.ram.read b) ∧
    (∀ v : Addr, (push16 st v s).ram.read (cellAddr st (sp st s)).toNat = loByte v ∧
      (push16 st v s).ram.read (cellAddr st (sp st s - 1)).toNat = hiByte v ∧
      push16 st v s = setSp st (sp st s - 2) { s with ram := (push16 st v s).ram } ∧
      ∀ b, ¬ pushedCell st (sp st s) 2 b → (push16 st v s).ram.read b = s.ram.read b) ∧
    ∀ (w : Width) (v : BitVec w.bits), pop w st (push w st v s) = (v, { s with ram := (push w st v s).ram })

/-- 10_state.md R22, R23: 256 pushes leave the pointer where it was, with no error, and 256 pops give the bytes back,
last one first, and leave it there again. -/
def Obligations.TwoHundredFiftySixPushesWrap : Prop :=
  ∀ (st : StackId) (vs : List Byte) (s : State), vs.length = 256 →
    sp st (pushAll st vs s) = sp st s ∧
    (popAll st 256 (pushAll st vs s)).1 = vs.reverse ∧
    sp st (popAll st 256 (pushAll st vs s)).2 = sp st s

/-! ## The device bus -/

/-- 20_memory.md R64, R65: a device-to-memory DMA whose range meets RAM and unpopulated slots alone writes its bytes,
in order, at consecutive addresses modulo 65536, and changes nothing else; `last_dma_source` stays
(90_conflicts.md C1). Whatever the range meets, the bytes are written one after the other by `write8`,
each in the state the one before left, and none after a byte whose write is not done (the core halted, or the
chain is stuck). The device's answer and the record of the request are the model's fields (log entries 4
and 5), and so is the fuel, one less for the nested writes (log entry 6). -/
def Obligations.DeviceToMemoryDmaFillsRam : Prop :=
  ∀ (fuel : Nat) (a : Addr) (v : Byte) (s : State) (t : Addr) (bytes : List Byte), isRam a = false →
    present (busSlot (loByte a)) s = true →
    writeAnswer (busSlot (loByte a)) (busPort (loByte a)) v s = .devToMem t bytes →
    (bytes.length ≤ 65536 →
      (∀ k, k < bytes.length → isRam (t + BitVec.ofNat 16 k) = false →
        present (busSlot (loByte (t + BitVec.ofNat 16 k))) s = false) →
      ∃ u, write8 fuel a v s = .done u ∧
        (∀ k (h : k < bytes.length), isRam (t + BitVec.ofNat 16 k) = true →
          ramRead (t + BitVec.ofNat 16 k) u = bytes[k]) ∧
        (∀ b, (∀ k, k < bytes.length → b ≠ (t + BitVec.ofNat 16 k).toNat) → u.ram.read b = s.ram.read b) ∧
        u = { afterRequest (busSlot (loByte a)) (busPort (loByte a)) v s with ram := u.ram }) ∧
    ∃ st : Nat → State, st 0 = afterRequest (busSlot (loByte a)) (busPort (loByte a)) v s ∧
      ∃ m, m ≤ bytes.length ∧
        (∀ k (h : k < bytes.length), k < m →
          write8 fuel (t + BitVec.ofNat 16 k) bytes[k] (st k) = .done (st (k + 1))) ∧
        (m = bytes.length → write8 (fuel + 1) a v s = .done (st m)) ∧
        ∀ h : m < bytes.length,
          (∀ u, write8 fuel (t + BitVec.ofNat 16 m) bytes[m] (st m) ≠ .done u) ∧
          write8 (fuel + 1) a v s = write8 fuel (t + BitVec.ofNat 16 m) bytes[m] (st m)

/-- 20_memory.md R67, R68, R69: a memory-to-device DMA whose range meets RAM and unpopulated slots alone records its slot
and delivers the bytes, RAM's and zeros, in order, to that slot's callback, once; RAM is unchanged.
Whatever the range meets, and however long it is, the bytes are read one after the other by `read8`, at
consecutive addresses modulo 65536, each in the state the one before left, and delivered after the last
(the answers and the record: log entries 4 and 5). -/
def Obligations.MemoryToDeviceDmaDelivers : Prop :=
  ∀ (fuel : Nat) (a : Addr) (v : Byte) (s : State) (t : Addr) (len : Nat), isRam a = false →
    present (busSlot (loByte a)) s = true →
    writeAnswer (busSlot (loByte a)) (busPort (loByte a)) v s = .memToDev t len →
    ((∀ k, k < len → isRam (t + BitVec.ofNat 16 k) = false →
        present (busSlot (loByte (t + BitVec.ofNat 16 k))) s = false) →
      write8 fuel a v s = .done { s with
        lastDmaSource := some (busSlot (loByte a))
        writeInputs := s.writeInputs.tail
        busTrace := s.busTrace ++ [.write (busSlot (loByte a)) (busPort (loByte a)) v,
          .dmaCallback (busSlot (loByte a)) ((List.range len).map fun k =>
            if isRam (t + BitVec.ofNat 16 k) then ramRead (t + BitVec.ofNat 16 k) s else 0x00)] }) ∧
    ∃ (st : Nat → State) (bytes : List Byte),
      st 0 = { afterRequest (busSlot (loByte a)) (busPort (loByte a)) v s with
        lastDmaSource := some (busSlot (loByte a)) } ∧
      bytes.length = len ∧
      (∀ k (h : k < bytes.length), read8 (t + BitVec.ofNat 16 k) (st k) = (bytes[k], st (k + 1))) ∧
      write8 fuel a v s = .done { st len with
        busTrace := (st len).busTrace ++ [.dmaCallback (busSlot (loByte a)) bytes] }

/-- 20_memory.md R66: a shutdown response calls the shutdown of every present device once, in slot order, and halts
with the code; a 16-bit write halted at its first byte does not write the second (the answer and the record:
log entries 4 and 5). -/
def Obligations.ShutdownResponseHalts : Prop :=
  ∀ (fuel : Nat) (a : Addr) (v : Byte) (s : State) (code : ExitCode), isRam a = false →
    present (busSlot (loByte a)) s = true →
    writeAnswer (busSlot (loByte a)) (busPort (loByte a)) v s = .shutdown code →
    write8 fuel a v s = .halted { afterRequest (busSlot (loByte a)) (busPort (loByte a)) v s with
      status := .halted code
      busTrace := s.busTrace ++ .write (busSlot (loByte a)) (busPort (loByte a)) v ::
        (((List.finRange 16).filter fun slot => present slot s).map BusEvent.shutdown) } ∧
    ∀ lo : Byte, write16 fuel a (hiLo v lo) s = write8 fuel a v s

/-- 20_memory.md R65, R71, R72: a chain of device writes, each answered by a device-to-memory DMA of one byte to a populated
port, is stuck where it is deeper than the fuel, and ends where its last answer comes within it (the fuel and
the answers are the model's: log entries 4 and 6). -/
def Obligations.NestedChainEndsWithinTheFuelOrIsStuck : Prop :=
  ∀ (fuel : Nat) (a t : Addr) (v b : Byte) (s : State), isRam a = false → isRam t = false →
    present (busSlot (loByte a)) s = true → present (busSlot (loByte t)) s = true →
    (s.writeInputs = List.replicate (fuel + 1) (.devToMem t [b]) → write8 fuel a v s = .stuck) ∧
    ∀ k rest, k ≤ fuel → s.writeInputs = List.replicate k (.devToMem t [b]) ++ .none :: rest →
      ∃ u, write8 fuel a v s = .done u ∧ u.writeInputs = rest ∧ u.ram = s.ram

/-- 20_memory.md R72: the fuel is no part of the machine: a step that answers a next state answers the same one,
but for the fuel, with any greater fuel (log entry 6). -/
def Obligations.MoreFuelChangesNoCompletedStep : Prop :=
  ∀ (s t : State) (g : Nat), s.dmaFuel ≤ g → step s = .next t →
    step { s with dmaFuel := g } = .next { t with dmaFuel := g }

/-- 20_memory.md R72, 30_encoding.md R98: only STR and STA can be refused, and only for a DMA chain deeper than the
fuel (log entry 6); nothing ends in a fault outcome (log entry 7). -/
def Obligations.OnlyRelativeAndAbsoluteStoresGetStuck : Prop :=
  ∀ (i : Instr) (s : State), (∃ t, exec i s = .next t) ∨
    (exec i s = .refused .dmaStuck ∧ ∃ m, i = form .str m ∨ i = form .sta m)

/-! ## Op 0 -/

/-- 41_literal_flags_nop.md R141 to R144: SEC and CLC write bit 0 of the flags and no other, EXT pushes a zero byte on
the working stack, NOP does nothing; each goes to the next byte, and each is one byte value only. -/
def Obligations.SecClcExtNopResults : Prop :=
  (∀ b : Byte, (decodeHead b = .whole .sec ↔ b = 0x20) ∧ (decodeHead b = .whole .clc ↔ b = 0x40) ∧
    (decodeHead b = .whole .ext ↔ b = 0x60) ∧ (decodeHead b = .whole .nop ↔ b = 0x00)) ∧
  ∀ s : State,
    exec .sec s = .next { s with flags := s.flags ||| 0x01, pc := s.pc + 1 } ∧
    exec .clc s = .next { s with flags := s.flags &&& 0xFE, pc := s.pc + 1 } ∧
    exec .ext s = .next (setPc (s.pc + 1) (push8 .working 0x00 s)) ∧
    exec .nop s = .next { s with pc := s.pc + 1 }

/-! ## Stack operations -/

/-- 42_stack.md R150. -/
def Obligations.PopDropsTheTopOperand : Prop :=
  ∀ (m : Mode) (s : State), wellFormedForm .pop m = true →
    decodeHead (opByte 0x03 m) = .whole (form .pop m) ∧
    exec (form .pop m) s = .next (setPc (s.pc + 1) (dropOperands m 1 s))

/-- 42_stack.md R151: `( a b -- b a )`; R152: `( a b c -- b c a )`. -/
def Obligations.SwpAndRotReorderOperands : Prop :=
  ∀ (m : Mode) (s : State),
    (decodeHead (opByte 0x04 m) = .whole (form .swp m) ∧ decodeHead (opByte 0x05 m) = .whole (form .rot m)) ∧
    exec (form .swp m) s = .next (setPc (s.pc + 1)
      (pushResult m (second m s) (pushResult m (top m s) (dropOperands m 2 s)))) ∧
    exec (form .rot m) s = .next (setPc (s.pc + 1)
      (pushResult m (third m s) (pushResult m (top m s) (pushResult m (second m s) (dropOperands m 3 s)))))

/-- 42_stack.md R153: `( a -- a a )`; R154: `( a b -- a b a )`. -/
def Obligations.DupAndOvrCopyOperands : Prop :=
  ∀ (m : Mode) (s : State),
    (decodeHead (opByte 0x06 m) = .whole (form .dup m) ∧ decodeHead (opByte 0x07 m) = .whole (form .ovr m)) ∧
    exec (form .dup m) s = .next (setPc (s.pc + 1)
      (pushResult m (top m s) (pushResult m (top m s) (dropOperands m 1 s)))) ∧
    exec (form .ovr m) s = .next (setPc (s.pc + 1)
      (pushResult m (second m s) (pushResult m (top m s) (pushResult m (second m s) (dropOperands m 2 s)))))

/-- 42_stack.md R155. -/
def Obligations.SthMovesTheTopToTheOtherStack : Prop :=
  ∀ (m : Mode) (s : State), decodeHead (opByte 0x0D m) = .whole (form .sth m) ∧
    exec (form .sth m) s = .next (setPc (s.pc + 1)
      (push m.width m.stack.other (top m s) (dropOperands m 1 s)))

/-- 42_stack.md R156: the offset counts from the stack pointer as it is after the take. -/
def Obligations.PicCopiesTheCellAtAnOffset : Prop :=
  ∀ (m : Mode) (s : State), decodeHead (opByte 0x16 m) = .whole (form .pic m) ∧
    exec (form .pic m) s = .next (setPc (s.pc + 1) (pushResult m
      (peek m.width m.stack ((peek8 m.stack 0 s).toNat + if m.keep then 0 else 1) s) (dropCells m 1 s)))

/-- 42_stack.md R157: the offset counts from the stack pointer as it is after the takes; the cells stored to are those
of the offset, and no other byte changes. -/
def Obligations.PutStoresAtAnOffset : Prop :=
  ∀ (m : Mode) (s : State), decodeHead (opByte 0x17 m) = .whole (form .put m) ∧
    ∃ t, exec (form .put m) s = .next t ∧
      t = setPc (s.pc + 1) (poke m.width m.stack (peek8 m.stack 0 s).toNat (underByte m s)
        (dropCells m (m.width.bytes + 1) s)) ∧
      t.flags = s.flags ∧ sp m.stack.other t = sp m.stack.other s ∧
      sp m.stack t = sp m.stack (dropCells m (m.width.bytes + 1) s) ∧ sameBus s t ∧
      ∀ b, b ≠ (cellAddr m.stack (peekIndex m.stack (peek8 m.stack 0 s).toNat t)).toNat →
        (m.width = .two →
          b ≠ (cellAddr m.stack (peekIndex m.stack ((peek8 m.stack 0 s).toNat + 1) t)).toNat) →
        t.ram.read b = s.ram.read b

/-! ## Comparison and control -/

/-- 43_compare_control.md R170: equality; R171: signed `a > b` with `b` on top; one byte at both widths. -/
def Obligations.EquAndGthPushOneByte : Prop :=
  ∀ (m : Mode) (s : State),
    (decodeHead (opByte 0x08 m) = .whole (form .equ m) ∧ decodeHead (opByte 0x09 m) = .whole (form .gth m)) ∧
    exec (form .equ m) s = .next (setPc (s.pc + 1)
      (push8 m.stack (if second m s = top m s then 0x01 else 0x00) (dropOperands m 2 s))) ∧
    exec (form .gth m) s = .next (setPc (s.pc + 1)
      (push8 m.stack (if (second m s).toInt > (top m s).toInt then 0x01 else 0x00) (dropOperands m 2 s)))

/-- 43_compare_control.md R172, R173: JMP; R174: JCN, its one-byte condition under the target, both taken either way. -/
def Obligations.JmpAndJcnGoToTheirTarget : Prop :=
  ∀ (m : Mode) (s : State),
    (decodeHead (opByte 0x0A m) = .whole (form .jmp m) ∧ decodeHead (opByte 0x0B m) = .whole (form .jcn m)) ∧
    exec (form .jmp m) s = .next (setPc (jumpTarget m s) (dropOperands m 1 s)) ∧
    exec (form .jcn m) s = .next (setPc
      (if peek8 m.stack m.width.bytes s = 0x00 then s.pc + 1 else jumpTarget m s)
      (dropCells m (m.width.bytes + 1) s))

/-- 43_compare_control.md R172, R175: the 16-bit return address goes to the other stack. -/
def Obligations.JsrPushesTheReturnAddress : Prop :=
  ∀ (m : Mode) (s : State), decodeHead (opByte 0x0C m) = .whole (form .jsr m) ∧
    exec (form .jsr m) s = .next (setPc (jumpTarget m s)
      (push16 m.stack.other (s.pc + 1) (dropOperands m 1 s)))

/-- 43_compare_control.md R176: the flag byte off the working stack, all eight bits, and the address off the return
stack; nothing else changes. -/
def Obligations.RtiRestoresFlagsAndReturns : Prop :=
  (∀ b : Byte, decodeHead b = .whole .rti ↔ b = 0x83) ∧ ∀ s : State, exec .rti s = .next { s with
    wsp := s.wsp + 1, rsp := s.rsp + 2, flags := peek8 .working 0 s, pc := peek16 .ret 0 s }

/-- 43_compare_control.md R173, R175; 90_conflicts.md C5: JMP2r after a JSR2, with the return stack as JSR2 left it, goes
to the byte after the JSR2 and leaves both stack pointers as they were under the target. -/
def Obligations.JmpTwoReturnUndoesJsrTwo : Prop :=
  ∀ s t u : State, exec .jsr2 s = .next t → u.rsp = t.rsp → u.ram = t.ram →
    ∃ r, exec .jmp2r u = .next r ∧ r.pc = s.pc + 1 ∧ r.rsp = s.rsp ∧ r.wsp = u.wsp ∧ t.wsp = s.wsp + 2

/-! ## Loads and stores -/

/-- 44_memory_access.md R190: LDZ, always from RAM; R192: LDR, from the opcode address; R194: LDA; the last two through the
router. -/
def Obligations.LoadsPushTheValueRead : Prop :=
  ∀ (m : Mode) (s : State),
    (decodeHead (opByte 0x10 m) = .whole (form .ldz m) ∧ decodeHead (opByte 0x12 m) = .whole (form .ldr m) ∧
      decodeHead (opByte 0x14 m) = .whole (form .lda m)) ∧
    exec (form .ldz m) s = .next (setPc (s.pc + 1)
      (pushResult m (loaded m.width (zext16 (peek8 m.stack 0 s)) s) (dropCells m 1 s))) ∧
    exec (form .ldr m) s = .next (setPc (s.pc + 1) (pushResult m
      (memRead m.width (s.pc + sext16 (peek8 m.stack 0 s)) (dropCells m 1 s)).1
      (memRead m.width (s.pc + sext16 (peek8 m.stack 0 s)) (dropCells m 1 s)).2)) ∧
    exec (form .lda m) s = .next (setPc (s.pc + 1) (pushResult m
      (memRead m.width (peek16 m.stack 0 s) (dropCells m 2 s)).1
      (memRead m.width (peek16 m.stack 0 s) (dropCells m 2 s)).2))

/-- 44_memory_access.md R191: STZ, always to RAM; R193: STR, from the opcode address; R195: STA; the last two where the bytes
stored to are in RAM. The address is on top, the value under it (D16). -/
def Obligations.StoresWriteRam : Prop :=
  ∀ (m : Mode) (s : State),
    (decodeHead (opByte 0x11 m) = .whole (form .stz m) ∧ decodeHead (opByte 0x13 m) = .whole (form .str m) ∧
      decodeHead (opByte 0x15 m) = .whole (form .sta m)) ∧
    exec (form .stz m) s = .next (setPc (s.pc + 1)
      (stored m.width (zext16 (peek8 m.stack 0 s)) (underByte m s) (dropCells m (m.width.bytes + 1) s))) ∧
    (inRam m.width (s.pc + sext16 (peek8 m.stack 0 s)) = true →
      exec (form .str m) s = .next (setPc (s.pc + 1)
        (stored m.width (s.pc + sext16 (peek8 m.stack 0 s)) (underByte m s)
          (dropCells m (m.width.bytes + 1) s)))) ∧
    (inRam m.width (peek16 m.stack 0 s) = true →
      exec (form .sta m) s = .next (setPc (s.pc + 1)
        (stored m.width (peek16 m.stack 0 s) (peek m.width m.stack 2 s)
          (dropCells m (m.width.bytes + 2) s))))

/-- 44_memory_access.md R195 with 20_memory.md R62, R63, R66: a byte stored to a device port. The device's answer decides:
no effect and the next instruction, or the halt with `pc` still at the STA. -/
def Obligations.StaToADevicePort : Prop :=
  ∀ (keep : Bool) (st : StackId) (s : State), isRam (peek16 st 0 s) = false →
    let m : Mode := ⟨keep, st, .one⟩
    let slot := busSlot (loByte (peek16 st 0 s))
    let port := busPort (loByte (peek16 st 0 s))
    let v := peek8 st 2 s
    let u := afterRequest slot port v (dropCells m 3 s)
    (present slot s = false → exec (form .sta m) s = .next (setPc (s.pc + 1) (dropCells m 3 s))) ∧
    (present slot s = true → writeAnswer slot port v s = .none →
      exec (form .sta m) s = .next (setPc (s.pc + 1) u)) ∧
    ∀ code, present slot s = true → writeAnswer slot port v s = .shutdown code →
      exec (form .sta m) s = .next { u with
        status := .halted code
        busTrace := u.busTrace ++
          (((List.finRange 16).filter fun k => present k s).map BusEvent.shutdown) }

/-- 44_memory_access.md R191, R193, R195 with 20_memory.md R54: a store, at every mode and wherever it stores, is the router's
write of the operand under the address, with the operands taken: where that write is done it goes on to the
next byte, where it halted the core `pc` stays, and where it is stuck in a DMA chain the step is refused
(log entry 6). -/
def Obligations.StoresAreTheRoutersWrite : Prop :=
  ∀ op ∈ [BaseOp.stz, .str, .sta], ∀ (m : Mode) (s : State),
    let v := peek m.width m.stack (if op = .sta then 2 else 1) s
    let f := memWrite m.width (storeAddr op m s) v (dropCells m (cellsTaken op m.width.bytes) s)
    (∀ u, f = .done u → exec (form op m) s = .next (setPc (s.pc + 1) u)) ∧
    (∀ u, f = .halted u → exec (form op m) s = .next u ∧ u.pc = s.pc) ∧
    (f = .stuck → exec (form op m) s = .refused .dmaStuck)

/-! ## Arithmetic and logic -/

/-- 45_arith_logic.md R200. -/
def Obligations.AdcAddsWithCarry : Prop :=
  ∀ (m : Mode) (s : State), decodeHead (opByte 0x18 m) = .whole (form .adc m) ∧
    let t := (second m s).toNat + (top m s).toNat + (s.flags.toNat % 2)
    exec (form .adc m) s = .next
      { pushResult m (BitVec.ofNat m.width.bits t) (dropOperands m 2 s) with
        pc := s.pc + 1
        flags := if 2 ^ m.width.bits ≤ t then s.flags ||| 0x01 else s.flags &&& 0xFE }

/-- 45_arith_logic.md R201. -/
def Obligations.SbcSubtractsWithBorrow : Prop :=
  ∀ (m : Mode) (s : State), decodeHead (opByte 0x19 m) = .whole (form .sbc m) ∧
    let t : Int := (second m s).toNat - (top m s).toNat - (1 - ((s.flags.toNat % 2 : Nat) : Int))
    exec (form .sbc m) s = .next
      { pushResult m (BitVec.ofInt m.width.bits t) (dropOperands m 2 s) with
        pc := s.pc + 1
        flags := if 0 ≤ t then s.flags ||| 0x01 else s.flags &&& 0xFE }

/-- 45_arith_logic.md R202. -/
def Obligations.MulKeepsTheLowHalf : Prop :=
  ∀ (m : Mode) (s : State), decodeHead (opByte 0x1A m) = .whole (form .mul m) ∧
    exec (form .mul m) s = .next (setPc (s.pc + 1)
      (pushResult m (BitVec.ofNat m.width.bits ((second m s).toNat * (top m s).toNat)) (dropOperands m 2 s)))

/-- 45_arith_logic.md R203: quotient, then remainder on top; a zero divisor raises DivideByZero before any state
changes. -/
def Obligations.DvmPushesQuotientAndRemainder : Prop :=
  ∀ (m : Mode) (s : State), decodeHead (opByte 0x1B m) = .whole (form .dvm m) ∧
    (top m s ≠ 0 → exec (form .dvm m) s = .next (setPc (s.pc + 1)
      (pushResult m (BitVec.ofNat m.width.bits ((second m s).toNat % (top m s).toNat))
        (pushResult m (BitVec.ofNat m.width.bits ((second m s).toNat / (top m s).toNat))
          (dropOperands m 2 s))))) ∧
    (top m s = 0 → exec (form .dvm m) s = .next { s with status := .faulted .divideByZero s.pc })

/-- 60_exceptions.md R221, 45_arith_logic.md R203: with a zero divisor only `status` changes, and the machine then stays
as it is and returns the fault at every further step; so with each of the eight bytes of DVM. -/
def Obligations.DvmByZeroFaultsPrecisely : Prop :=
  ∀ (m : Mode) (s : State), top m s = 0 →
    decodeHead (opByte 0x1B m) = .whole (form .dvm m) ∧
    exec (form .dvm m) s = .next { s with status := .faulted .divideByZero s.pc } ∧
    (∀ t, exec (form .dvm m) s = .next t →
      step t = .next t ∧ driverResult t = some (.faulted .divideByZero s.pc)) ∧
    (s.status = .running → isRam s.pc = true → ramRead s.pc s = opByte 0x1B m →
      driverResult s = some (.faulted .divideByZero s.pc))

/-- 45_arith_logic.md R204, R205, R206. -/
def Obligations.AndIorXorAreBitwise : Prop :=
  ∀ (m : Mode) (s : State),
    (decodeHead (opByte 0x1C m) = .whole (form .and m) ∧
      decodeHead (opByte 0x1D m) = .whole (form .ior m) ∧
      decodeHead (opByte 0x1E m) = .whole (form .xor m)) ∧
    exec (form .and m) s = .next (setPc (s.pc + 1)
      (pushResult m (second m s &&& top m s) (dropOperands m 2 s))) ∧
    exec (form .ior m) s = .next (setPc (s.pc + 1)
      (pushResult m (second m s ||| top m s) (dropOperands m 2 s))) ∧
    exec (form .xor m) s = .next (setPc (s.pc + 1)
      (pushResult m (second m s ^^^ top m s) (dropOperands m 2 s)))

/-- 45_arith_logic.md R207: left by bits 7:4, cut to the width, then right by bits 3:0. -/
def Obligations.SftShiftsLeftThenRight : Prop :=
  ∀ (m : Mode) (s : State), decodeHead (opByte 0x1F m) = .whole (form .sft m) ∧
    let sh := (peek8 m.stack 0 s).toNat
    exec (form .sft m) s = .next (setPc (s.pc + 1) (pushResult m
      (BitVec.ofNat m.width.bits ((underByte m s).toNat * 2 ^ (sh / 16) % 2 ^ m.width.bits / 2 ^ (sh % 16)))
      (dropCells m (m.width.bytes + 1) s)))

/-! ## Frames -/

/-- 40_cycle.md R113, R116; 42_stack.md, 43_compare_control.md, 44_memory_access.md, 45_arith_logic.md: POP, SWP, ROT, DUP,
OVR, EQU, GTH, JMP, JCN, LDZ, PIC, ADC, SBC, MUL, DVM (its divisor not zero), AND, IOR, XOR and SFT
move their own stack pointer by what they take and push, write only the cells they push, and leave the
other stack pointer, the bus, the status and, but for C in ADC and SBC, the flags. -/
def Obligations.OwnStackFrame : Prop :=
  ∀ op ∈ ownStackOps, ∀ (m : Mode) (s t : State), wellFormedForm op m = true →
    (op = .dvm → top m s ≠ 0) → exec (form op m) s = .next t →
    sp m.stack t = sp m.stack s + BitVec.ofNat 8 (if m.keep then 0 else cellsTaken op m.width.bytes) -
      BitVec.ofNat 8 (cellsPushed op m.width.bytes) ∧
    sp m.stack.other t = sp m.stack.other s ∧ sameBus s t ∧
    (∀ b, ¬ pushedCell m.stack (sp m.stack (dropCells m (cellsTaken op m.width.bytes) s))
      (cellsPushed op m.width.bytes) b → t.ram.read b = s.ram.read b) ∧
    (op ≠ .adc → op ≠ .sbc → t.flags = s.flags) ∧
    ∀ k, 0 < k → t.flags.getLsbD k = s.flags.getLsbD k

/-- 42_stack.md R155, 43_compare_control.md R175: STH and JSR take from their stack and push onto the other one, write only
the cells they push, and leave the flags, the bus and the status. -/
def Obligations.OtherStackFrame : Prop :=
  ∀ op ∈ [BaseOp.sth, .jsr], ∀ (m : Mode) (s t : State), exec (form op m) s = .next t →
    sp m.stack t = sp m.stack (dropCells m (cellsTaken op m.width.bytes) s) ∧
    sp m.stack.other t = sp m.stack.other s - BitVec.ofNat 8 (cellsPushed op m.width.bytes) ∧
    t.flags = s.flags ∧ sameBus s t ∧
    ∀ b, ¬ pushedCell m.stack.other (sp m.stack.other s) (cellsPushed op m.width.bytes) b →
      t.ram.read b = s.ram.read b

/-- 44_memory_access.md R192, R194; 20_memory.md R55, R61: LDR and LDA write only the cells they push; a device read leaves
nothing behind but its request and the answer taken. -/
def Obligations.LoadFrame : Prop :=
  ∀ op ∈ [BaseOp.ldr, .lda], ∀ (m : Mode) (s t : State), exec (form op m) s = .next t →
    sp m.stack t = sp m.stack (dropCells m (cellsTaken op m.width.bytes) s) -
      BitVec.ofNat 8 (cellsPushed op m.width.bytes) ∧
    sp m.stack.other t = sp m.stack.other s ∧ t.flags = s.flags ∧
    t.lastDmaSource = s.lastDmaSource ∧ t.slots = s.slots ∧ t.status = s.status ∧
    t.writeInputs = s.writeInputs ∧ t.dmaFuel = s.dmaFuel ∧
    (∃ reads : List (Slot × Port), reads.length ≤ m.width.bytes ∧
      t.busTrace = s.busTrace ++ reads.map (fun r => BusEvent.read r.1 r.2) ∧
      t.readInputs = s.readInputs.drop reads.length) ∧
    ∀ b, ¬ pushedCell m.stack (sp m.stack (dropCells m (cellsTaken op m.width.bytes) s))
      (cellsPushed op m.width.bytes) b → t.ram.read b = s.ram.read b

/-- 44_memory_access.md R191, R193, R195: STZ, STR and STA that store to RAM change the bytes stored to, at the address the
operand designates, their own stack pointer, and nothing else. -/
def Obligations.RamStoreFrame : Prop :=
  ∀ op ∈ [BaseOp.stz, .str, .sta], ∀ (m : Mode) (s t : State),
    inRam m.width (storeAddr op m s) = true → exec (form op m) s = .next t →
    sp m.stack t = sp m.stack (dropCells m (cellsTaken op m.width.bytes) s) ∧
    sp m.stack.other t = sp m.stack.other s ∧ t.flags = s.flags ∧ sameBus s t ∧
    ∀ b, ¬ touches m.width (storeAddr op m s) b → t.ram.read b = s.ram.read b

/-- 20_memory.md R54, R62 to R69; 10_state.md R29: whatever a device answers a store, the flags, the slot table, the other
stack pointer and the fuel stay, the own stack pointer moves past the operands, and `pc` goes on by one
or, where the store halted the machine, stays. -/
def Obligations.DeviceStoreFrame : Prop :=
  ∀ op ∈ [BaseOp.stz, .str, .sta], ∀ (m : Mode) (s t : State), exec (form op m) s = .next t →
    t.flags = s.flags ∧ t.slots = s.slots ∧ t.dmaFuel = s.dmaFuel ∧
    sp m.stack t = sp m.stack (dropCells m (cellsTaken op m.width.bytes) s) ∧
    sp m.stack.other t = sp m.stack.other s ∧
    ((t.status = s.status ∧ t.pc = s.pc + 1) ∨ ((∃ code, t.status = .halted code) ∧ t.pc = s.pc))

/-! ## The whole machine -/

/-- 10_state.md R27, R29; 92_eei_decisions.md D33: every step keeps RAM in its canonical form, slot 0 populated, and
`last_dma_source` on a populated slot. -/
def Obligations.StepKeepsTheInvariant : Prop :=
  ∀ s t : State, Inv s → step s = .next t → Inv t

/-- 10_state.md R40: every construction that is accepted gives a running machine with that invariant, and so does reset. -/
def Obligations.ConstructionEstablishesTheInvariant : Prop :=
  Inv State.reset ∧
  ∀ (P : DeviceKinds) (image : List Byte) (ps : List Placement) (s : State),
    construct P image ps = .ok s → Inv s ∧ s.status = .running

/-- 60_exceptions.md R220, R221, R222: a step faults a running machine only by a DVM whose divisor is zero, with the cause,
whose code is 1, and the opcode address, and changes nothing else of the fetched state. -/
def Obligations.OnlyDvmFaults : Prop :=
  ∀ (s t : State) (c : Cause) (a : Addr), s.status = .running → step s = .next t →
    t.status = .faulted c a →
    c = .divideByZero ∧ c.code = 1 ∧ a = s.pc ∧ t = { (fetch s).2 with status := .faulted .divideByZero s.pc } ∧
      ∃ m, (fetch s).1 = form .dvm m ∧ top m (fetch s).2 = 0

/-- 60_exceptions.md R227, 20_memory.md R66: a running machine is halted only by STR or STA, with `pc` left at it. -/
def Obligations.OnlyDeviceStoresHalt : Prop :=
  ∀ (i : Instr) (s t : State) (code : ExitCode), s.status = .running → exec i s = .next t →
    t.status = .halted code →
    t.pc = s.pc ∧ ∃ m, (i = form .str m ∧ inRam m.width (storeAddr .str m s) = false) ∨
      (i = form .sta m ∧ inRam m.width (storeAddr .sta m s) = false)

/-- 10_state.md R24, R25: only SEC, CLC, ADC, SBC and RTI change the flags, and only RTI changes a bit other than C. -/
def Obligations.FlagsChangeOnlyAsListed : Prop :=
  ∀ (i : Instr) (s t : State), exec i s = .next t →
    (t.flags ≠ s.flags →
      i = .sec ∨ i = .clc ∨ i = .rti ∨ ∃ m, i = form .adc m ∨ i = form .sbc m) ∧
    (i ≠ .rti → ∀ k, 0 < k → t.flags.getLsbD k = s.flags.getLsbD k)

/-- 10_state.md R25: bits 7:1 of the flags affect nothing: two machines that differ in those bits alone step to machines
that differ in those bits alone. -/
def Obligations.UnusedFlagBitsAffectNothing : Prop :=
  ∀ (s t : State) (f : Byte), f.getLsbD 0 = s.flags.getLsbD 0 → step s = .next t →
    ∃ g, g.getLsbD 0 = t.flags.getLsbD 0 ∧ step { s with flags := f } = .next { t with flags := g }

/-- 10_state.md R29; 20_memory.md R74, R77: no step changes the slot table or the fuel, and requests are made in order
and stay made: a step only adds to the end of the trace. -/
def Obligations.SlotTableStaysAndTraceGrows : Prop :=
  ∀ s t : State, step s = .next t →
    t.slots = s.slots ∧ t.dmaFuel = s.dmaFuel ∧ ∃ more, t.busTrace = s.busTrace ++ more

/-! ## Reset and construction -/

/-- 10_state.md R40, 70_reset_and_hazards.md R255: the state right after reset, for an empty image and no placements, which
is the model's reset (log entry 8), and for any accepted construction. -/
def Obligations.ResetValues : Prop :=
  (State.reset.wsp = 0xFF ∧ State.reset.rsp = 0xFF ∧ State.reset.flags = 0x00 ∧ State.reset.pc = 0x0300 ∧
    State.reset.lastDmaSource = none ∧ State.reset.status = .running ∧
    (∀ a, State.reset.ram.read a = 0x00) ∧
    ∀ slot : Slot, present slot State.reset = true ↔ slot = 0) ∧
  (∀ P : DeviceKinds, P.mandatory = Config.mandatoryKind → construct P [] [] = .ok State.reset) ∧
  ∀ (P : DeviceKinds) (image : List Byte) (ps : List Placement) (s : State), construct P image ps = .ok s →
    s.wsp = 0xFF ∧ s.rsp = 0xFF ∧ s.flags = 0x00 ∧ s.pc = 0x0300 ∧ s.lastDmaSource = none ∧
      s.status = .running

/-- 70_reset_and_hazards.md R254: the image stands verbatim from `0x0300` on, and the rest of RAM is zero; an image that
does not fit below the device region is the error ImageTooLarge. -/
def Obligations.ConstructionLoadsTheImage : Prop :=
  ∀ (P : DeviceKinds) (image : List Byte) (ps : List Placement),
    (∀ s, construct P image ps = .ok s →
      (∀ k (h : k < image.length), s.ram.read (0x300 + k) = image[k]) ∧
      ∀ a, (a < 0x300 ∨ 0x300 + image.length ≤ a) → s.ram.read a = 0x00) ∧
    (64512 < image.length → ∃ es, construct P image ps = .error es ∧ ConfigError.imageTooLarge ∈ es)

/-- 70_reset_and_hazards.md R251 to R254: a configuration is accepted exactly where no check fails, and then slot 0 holds
the mandatory kind, each placed slot its kind, and every other slot nothing. -/
def Obligations.ConstructionChecksThePlacements : Prop :=
  ∀ (P : DeviceKinds) (image : List Byte) (ps : List Placement),
    ((∃ s, construct P image ps = .ok s) ↔
      (image.length ≤ 64512 ∧
        (∀ p ∈ ps, 1 ≤ p.slot ∧ p.slot ≤ 15 ∧ p.kind ≠ P.mandatory ∧ p.kind ∈ P.known ∧
          P.accepts p.kind p.options = true) ∧
        (ps.map Placement.slot).Nodup)) ∧
    ∀ s, construct P image ps = .ok s →
      s.slots.get 0 = some P.mandatory ∧
      (∀ p ∈ ps, ∀ h : p.slot < 16, s.slots.get ⟨p.slot, h⟩ = some p.kind) ∧
      ∀ slot : Slot, slot ≠ 0 → (∀ p ∈ ps, p.slot ≠ slot.val) → s.slots.get slot = none

/-- 00_scope.md R9: the three pages are distinct, aligned, and the stack pages lie below the load offset; so no stack
access reaches a device and the two stacks never share a cell (10_state.md R30). -/
def Obligations.StackPagesAreDistinctRam : Prop :=
  (Config.wstBase ≠ Config.rstBase ∧ Config.wstBase ≠ Config.loadOffset ∧
    Config.rstBase ≠ Config.loadOffset ∧ Config.wstBase.toNat % 256 = 0 ∧
    Config.rstBase.toNat % 256 = 0 ∧ Config.loadOffset.toNat % 256 = 0 ∧
    Config.wstBase.toNat ≤ 0x02FF ∧ Config.rstBase.toNat ≤ 0x02FF) ∧
  ∀ (st : StackId) (i j : Byte), isRam (cellAddr st i) = true ∧
    (cellAddr st i = cellAddr st j → i = j) ∧ cellAddr st i ≠ cellAddr st.other j
end

