-- ==== Sys2Proof/Laws/State.lean ====
section
/-! SUPPORT. One lemma per field per update of the state, so that no later proof unfolds a record update. -/

namespace Sys2Proof.Machine

/-! ## ramWrite -/

@[simp] theorem ramWrite_wsp (a : Addr) (v : Byte) (s : State) :
    (ramWrite a v s).wsp = s.wsp := rfl

@[simp] theorem ramWrite_rsp (a : Addr) (v : Byte) (s : State) :
    (ramWrite a v s).rsp = s.rsp := rfl

@[simp] theorem ramWrite_flags (a : Addr) (v : Byte) (s : State) :
    (ramWrite a v s).flags = s.flags := rfl

@[simp] theorem ramWrite_pc (a : Addr) (v : Byte) (s : State) :
    (ramWrite a v s).pc = s.pc := rfl

@[simp] theorem ramWrite_ram (a : Addr) (v : Byte) (s : State) :
    (ramWrite a v s).ram = s.ram.write a.toNat v := rfl

@[simp] theorem ramWrite_lastDmaSource (a : Addr) (v : Byte) (s : State) :
    (ramWrite a v s).lastDmaSource = s.lastDmaSource := rfl

@[simp] theorem ramWrite_slots (a : Addr) (v : Byte) (s : State) :
    (ramWrite a v s).slots = s.slots := rfl

@[simp] theorem ramWrite_status (a : Addr) (v : Byte) (s : State) :
    (ramWrite a v s).status = s.status := rfl

@[simp] theorem ramWrite_readInputs (a : Addr) (v : Byte) (s : State) :
    (ramWrite a v s).readInputs = s.readInputs := rfl

@[simp] theorem ramWrite_writeInputs (a : Addr) (v : Byte) (s : State) :
    (ramWrite a v s).writeInputs = s.writeInputs := rfl

@[simp] theorem ramWrite_busTrace (a : Addr) (v : Byte) (s : State) :
    (ramWrite a v s).busTrace = s.busTrace := rfl

@[simp] theorem ramWrite_dmaFuel (a : Addr) (v : Byte) (s : State) :
    (ramWrite a v s).dmaFuel = s.dmaFuel := rfl

/-! ## setPc -/

@[simp] theorem setPc_wsp (a : Addr) (s : State) :
    (setPc a s).wsp = s.wsp := rfl

@[simp] theorem setPc_rsp (a : Addr) (s : State) :
    (setPc a s).rsp = s.rsp := rfl

@[simp] theorem setPc_flags (a : Addr) (s : State) :
    (setPc a s).flags = s.flags := rfl

@[simp] theorem setPc_pc (a : Addr) (s : State) :
    (setPc a s).pc = a := rfl

@[simp] theorem setPc_ram (a : Addr) (s : State) :
    (setPc a s).ram = s.ram := rfl

@[simp] theorem setPc_lastDmaSource (a : Addr) (s : State) :
    (setPc a s).lastDmaSource = s.lastDmaSource := rfl

@[simp] theorem setPc_slots (a : Addr) (s : State) :
    (setPc a s).slots = s.slots := rfl

@[simp] theorem setPc_status (a : Addr) (s : State) :
    (setPc a s).status = s.status := rfl

@[simp] theorem setPc_readInputs (a : Addr) (s : State) :
    (setPc a s).readInputs = s.readInputs := rfl

@[simp] theorem setPc_writeInputs (a : Addr) (s : State) :
    (setPc a s).writeInputs = s.writeInputs := rfl

@[simp] theorem setPc_busTrace (a : Addr) (s : State) :
    (setPc a s).busTrace = s.busTrace := rfl

@[simp] theorem setPc_dmaFuel (a : Addr) (s : State) :
    (setPc a s).dmaFuel = s.dmaFuel := rfl

/-! ## setSp -/

@[simp] theorem setSp_flags (st : StackId) (v : Byte) (s : State) :
    (setSp st v s).flags = s.flags := by cases st <;> rfl

@[simp] theorem setSp_pc (st : StackId) (v : Byte) (s : State) :
    (setSp st v s).pc = s.pc := by cases st <;> rfl

@[simp] theorem setSp_ram (st : StackId) (v : Byte) (s : State) :
    (setSp st v s).ram = s.ram := by cases st <;> rfl

@[simp] theorem setSp_lastDmaSource (st : StackId) (v : Byte) (s : State) :
    (setSp st v s).lastDmaSource = s.lastDmaSource := by cases st <;> rfl

@[simp] theorem setSp_slots (st : StackId) (v : Byte) (s : State) :
    (setSp st v s).slots = s.slots := by cases st <;> rfl

@[simp] theorem setSp_status (st : StackId) (v : Byte) (s : State) :
    (setSp st v s).status = s.status := by cases st <;> rfl

@[simp] theorem setSp_readInputs (st : StackId) (v : Byte) (s : State) :
    (setSp st v s).readInputs = s.readInputs := by cases st <;> rfl

@[simp] theorem setSp_writeInputs (st : StackId) (v : Byte) (s : State) :
    (setSp st v s).writeInputs = s.writeInputs := by cases st <;> rfl

@[simp] theorem setSp_busTrace (st : StackId) (v : Byte) (s : State) :
    (setSp st v s).busTrace = s.busTrace := by cases st <;> rfl

@[simp] theorem setSp_dmaFuel (st : StackId) (v : Byte) (s : State) :
    (setSp st v s).dmaFuel = s.dmaFuel := by cases st <;> rfl

/-! ## setCarry -/

@[simp] theorem setCarry_wsp (c : Bool) (s : State) :
    (setCarry c s).wsp = s.wsp := rfl

@[simp] theorem setCarry_rsp (c : Bool) (s : State) :
    (setCarry c s).rsp = s.rsp := rfl

@[simp] theorem setCarry_flags (c : Bool) (s : State) :
    (setCarry c s).flags = (s.flags &&& 0xFE) ||| (if c then 0x01 else 0x00) := rfl

@[simp] theorem setCarry_pc (c : Bool) (s : State) :
    (setCarry c s).pc = s.pc := rfl

@[simp] theorem setCarry_ram (c : Bool) (s : State) :
    (setCarry c s).ram = s.ram := rfl

@[simp] theorem setCarry_lastDmaSource (c : Bool) (s : State) :
    (setCarry c s).lastDmaSource = s.lastDmaSource := rfl

@[simp] theorem setCarry_slots (c : Bool) (s : State) :
    (setCarry c s).slots = s.slots := rfl

@[simp] theorem setCarry_status (c : Bool) (s : State) :
    (setCarry c s).status = s.status := rfl

@[simp] theorem setCarry_readInputs (c : Bool) (s : State) :
    (setCarry c s).readInputs = s.readInputs := rfl

@[simp] theorem setCarry_writeInputs (c : Bool) (s : State) :
    (setCarry c s).writeInputs = s.writeInputs := rfl

@[simp] theorem setCarry_busTrace (c : Bool) (s : State) :
    (setCarry c s).busTrace = s.busTrace := rfl

@[simp] theorem setCarry_dmaFuel (c : Bool) (s : State) :
    (setCarry c s).dmaFuel = s.dmaFuel := rfl

/-! ## halt -/

@[simp] theorem halt_wsp (code : ExitCode) (s : State) :
    (halt code s).wsp = s.wsp := rfl

@[simp] theorem halt_rsp (code : ExitCode) (s : State) :
    (halt code s).rsp = s.rsp := rfl

@[simp] theorem halt_flags (code : ExitCode) (s : State) :
    (halt code s).flags = s.flags := rfl

@[simp] theorem halt_pc (code : ExitCode) (s : State) :
    (halt code s).pc = s.pc := rfl

@[simp] theorem halt_ram (code : ExitCode) (s : State) :
    (halt code s).ram = s.ram := rfl

@[simp] theorem halt_lastDmaSource (code : ExitCode) (s : State) :
    (halt code s).lastDmaSource = s.lastDmaSource := rfl

@[simp] theorem halt_slots (code : ExitCode) (s : State) :
    (halt code s).slots = s.slots := rfl

@[simp] theorem halt_status (code : ExitCode) (s : State) :
    (halt code s).status = .halted code := rfl

@[simp] theorem halt_readInputs (code : ExitCode) (s : State) :
    (halt code s).readInputs = s.readInputs := rfl

@[simp] theorem halt_writeInputs (code : ExitCode) (s : State) :
    (halt code s).writeInputs = s.writeInputs := rfl

@[simp] theorem halt_busTrace (code : ExitCode) (s : State) :
    (halt code s).busTrace = s.busTrace := rfl

@[simp] theorem halt_dmaFuel (code : ExitCode) (s : State) :
    (halt code s).dmaFuel = s.dmaFuel := rfl

/-! ## raise -/

@[simp] theorem raise_wsp (cause : Cause) (s : State) :
    (raise cause s).wsp = s.wsp := rfl

@[simp] theorem raise_rsp (cause : Cause) (s : State) :
    (raise cause s).rsp = s.rsp := rfl

@[simp] theorem raise_flags (cause : Cause) (s : State) :
    (raise cause s).flags = s.flags := rfl

@[simp] theorem raise_pc (cause : Cause) (s : State) :
    (raise cause s).pc = s.pc := rfl

@[simp] theorem raise_ram (cause : Cause) (s : State) :
    (raise cause s).ram = s.ram := rfl

@[simp] theorem raise_lastDmaSource (cause : Cause) (s : State) :
    (raise cause s).lastDmaSource = s.lastDmaSource := rfl

@[simp] theorem raise_slots (cause : Cause) (s : State) :
    (raise cause s).slots = s.slots := rfl

@[simp] theorem raise_status (cause : Cause) (s : State) :
    (raise cause s).status = .faulted cause s.pc := rfl

@[simp] theorem raise_readInputs (cause : Cause) (s : State) :
    (raise cause s).readInputs = s.readInputs := rfl

@[simp] theorem raise_writeInputs (cause : Cause) (s : State) :
    (raise cause s).writeInputs = s.writeInputs := rfl

@[simp] theorem raise_busTrace (cause : Cause) (s : State) :
    (raise cause s).busTrace = s.busTrace := rfl

@[simp] theorem raise_dmaFuel (cause : Cause) (s : State) :
    (raise cause s).dmaFuel = s.dmaFuel := rfl

/-! ## push8 -/

@[simp] theorem push8_flags (st : StackId) (v : Byte) (s : State) :
    (push8 st v s).flags = s.flags := by cases st <;> rfl

@[simp] theorem push8_pc (st : StackId) (v : Byte) (s : State) :
    (push8 st v s).pc = s.pc := by cases st <;> rfl

@[simp] theorem push8_ram (st : StackId) (v : Byte) (s : State) :
    (push8 st v s).ram = s.ram.write (cellAddr st (sp st s)).toNat v := by cases st <;> rfl

@[simp] theorem push8_lastDmaSource (st : StackId) (v : Byte) (s : State) :
    (push8 st v s).lastDmaSource = s.lastDmaSource := by cases st <;> rfl

@[simp] theorem push8_slots (st : StackId) (v : Byte) (s : State) :
    (push8 st v s).slots = s.slots := by cases st <;> rfl

@[simp] theorem push8_status (st : StackId) (v : Byte) (s : State) :
    (push8 st v s).status = s.status := by cases st <;> rfl

@[simp] theorem push8_readInputs (st : StackId) (v : Byte) (s : State) :
    (push8 st v s).readInputs = s.readInputs := by cases st <;> rfl

@[simp] theorem push8_writeInputs (st : StackId) (v : Byte) (s : State) :
    (push8 st v s).writeInputs = s.writeInputs := by cases st <;> rfl

@[simp] theorem push8_busTrace (st : StackId) (v : Byte) (s : State) :
    (push8 st v s).busTrace = s.busTrace := by cases st <;> rfl

@[simp] theorem push8_dmaFuel (st : StackId) (v : Byte) (s : State) :
    (push8 st v s).dmaFuel = s.dmaFuel := by cases st <;> rfl

/-! ## push -/

@[simp] theorem push_flags (w : Width) (st : StackId) (v : BitVec w.bits) (s : State) :
    (push w st v s).flags = s.flags := by cases w <;> cases st <;> rfl

@[simp] theorem push_pc (w : Width) (st : StackId) (v : BitVec w.bits) (s : State) :
    (push w st v s).pc = s.pc := by cases w <;> cases st <;> rfl

@[simp] theorem push_lastDmaSource (w : Width) (st : StackId) (v : BitVec w.bits) (s : State) :
    (push w st v s).lastDmaSource = s.lastDmaSource := by cases w <;> cases st <;> rfl

@[simp] theorem push_slots (w : Width) (st : StackId) (v : BitVec w.bits) (s : State) :
    (push w st v s).slots = s.slots := by cases w <;> cases st <;> rfl

@[simp] theorem push_status (w : Width) (st : StackId) (v : BitVec w.bits) (s : State) :
    (push w st v s).status = s.status := by cases w <;> cases st <;> rfl

@[simp] theorem push_readInputs (w : Width) (st : StackId) (v : BitVec w.bits) (s : State) :
    (push w st v s).readInputs = s.readInputs := by cases w <;> cases st <;> rfl

@[simp] theorem push_writeInputs (w : Width) (st : StackId) (v : BitVec w.bits) (s : State) :
    (push w st v s).writeInputs = s.writeInputs := by cases w <;> cases st <;> rfl

@[simp] theorem push_busTrace (w : Width) (st : StackId) (v : BitVec w.bits) (s : State) :
    (push w st v s).busTrace = s.busTrace := by cases w <;> cases st <;> rfl

@[simp] theorem push_dmaFuel (w : Width) (st : StackId) (v : BitVec w.bits) (s : State) :
    (push w st v s).dmaFuel = s.dmaFuel := by cases w <;> cases st <;> rfl

/-! ## poke -/

@[simp] theorem poke_wsp (w : Width) (st : StackId) (o : Nat) (v : BitVec w.bits) (s : State) :
    (poke w st o v s).wsp = s.wsp := by cases w <;> rfl

@[simp] theorem poke_rsp (w : Width) (st : StackId) (o : Nat) (v : BitVec w.bits) (s : State) :
    (poke w st o v s).rsp = s.rsp := by cases w <;> rfl

@[simp] theorem poke_flags (w : Width) (st : StackId) (o : Nat) (v : BitVec w.bits) (s : State) :
    (poke w st o v s).flags = s.flags := by cases w <;> rfl

@[simp] theorem poke_pc (w : Width) (st : StackId) (o : Nat) (v : BitVec w.bits) (s : State) :
    (poke w st o v s).pc = s.pc := by cases w <;> rfl

@[simp] theorem poke_lastDmaSource (w : Width) (st : StackId) (o : Nat) (v : BitVec w.bits) (s : State) :
    (poke w st o v s).lastDmaSource = s.lastDmaSource := by cases w <;> rfl

@[simp] theorem poke_slots (w : Width) (st : StackId) (o : Nat) (v : BitVec w.bits) (s : State) :
    (poke w st o v s).slots = s.slots := by cases w <;> rfl

@[simp] theorem poke_status (w : Width) (st : StackId) (o : Nat) (v : BitVec w.bits) (s : State) :
    (poke w st o v s).status = s.status := by cases w <;> rfl

@[simp] theorem poke_readInputs (w : Width) (st : StackId) (o : Nat) (v : BitVec w.bits) (s : State) :
    (poke w st o v s).readInputs = s.readInputs := by cases w <;> rfl

@[simp] theorem poke_writeInputs (w : Width) (st : StackId) (o : Nat) (v : BitVec w.bits) (s : State) :
    (poke w st o v s).writeInputs = s.writeInputs := by cases w <;> rfl

@[simp] theorem poke_busTrace (w : Width) (st : StackId) (o : Nat) (v : BitVec w.bits) (s : State) :
    (poke w st o v s).busTrace = s.busTrace := by cases w <;> rfl

@[simp] theorem poke_dmaFuel (w : Width) (st : StackId) (o : Nat) (v : BitVec w.bits) (s : State) :
    (poke w st o v s).dmaFuel = s.dmaFuel := by cases w <;> rfl

/-! ## shutdownAll -/

@[simp] theorem shutdownAll_wsp (s : State) :
    (shutdownAll s).wsp = s.wsp := rfl

@[simp] theorem shutdownAll_rsp (s : State) :
    (shutdownAll s).rsp = s.rsp := rfl

@[simp] theorem shutdownAll_flags (s : State) :
    (shutdownAll s).flags = s.flags := rfl

@[simp] theorem shutdownAll_pc (s : State) :
    (shutdownAll s).pc = s.pc := rfl

@[simp] theorem shutdownAll_ram (s : State) :
    (shutdownAll s).ram = s.ram := rfl

@[simp] theorem shutdownAll_lastDmaSource (s : State) :
    (shutdownAll s).lastDmaSource = s.lastDmaSource := rfl

@[simp] theorem shutdownAll_slots (s : State) :
    (shutdownAll s).slots = s.slots := rfl

@[simp] theorem shutdownAll_status (s : State) :
    (shutdownAll s).status = s.status := rfl

@[simp] theorem shutdownAll_readInputs (s : State) :
    (shutdownAll s).readInputs = s.readInputs := rfl

@[simp] theorem shutdownAll_writeInputs (s : State) :
    (shutdownAll s).writeInputs = s.writeInputs := rfl

@[simp] theorem shutdownAll_dmaFuel (s : State) :
    (shutdownAll s).dmaFuel = s.dmaFuel := rfl

/-! ## dropCells -/

@[simp] theorem dropCells_flags (m : Mode) (c : Nat) (s : State) :
    (dropCells m c s).flags = s.flags := by
  unfold dropCells; split
  · rfl
  · simp

@[simp] theorem dropCells_pc (m : Mode) (c : Nat) (s : State) :
    (dropCells m c s).pc = s.pc := by
  unfold dropCells; split
  · rfl
  · simp

@[simp] theorem dropCells_ram (m : Mode) (c : Nat) (s : State) :
    (dropCells m c s).ram = s.ram := by
  unfold dropCells; split
  · rfl
  · simp

@[simp] theorem dropCells_lastDmaSource (m : Mode) (c : Nat) (s : State) :
    (dropCells m c s).lastDmaSource = s.lastDmaSource := by
  unfold dropCells; split
  · rfl
  · simp

@[simp] theorem dropCells_slots (m : Mode) (c : Nat) (s : State) :
    (dropCells m c s).slots = s.slots := by
  unfold dropCells; split
  · rfl
  · simp

@[simp] theorem dropCells_status (m : Mode) (c : Nat) (s : State) :
    (dropCells m c s).status = s.status := by
  unfold dropCells; split
  · rfl
  · simp

@[simp] theorem dropCells_readInputs (m : Mode) (c : Nat) (s : State) :
    (dropCells m c s).readInputs = s.readInputs := by
  unfold dropCells; split
  · rfl
  · simp

@[simp] theorem dropCells_writeInputs (m : Mode) (c : Nat) (s : State) :
    (dropCells m c s).writeInputs = s.writeInputs := by
  unfold dropCells; split
  · rfl
  · simp

@[simp] theorem dropCells_busTrace (m : Mode) (c : Nat) (s : State) :
    (dropCells m c s).busTrace = s.busTrace := by
  unfold dropCells; split
  · rfl
  · simp

@[simp] theorem dropCells_dmaFuel (m : Mode) (c : Nat) (s : State) :
    (dropCells m c s).dmaFuel = s.dmaFuel := by
  unfold dropCells; split
  · rfl
  · simp

/-! ## The stack pointers -/

@[simp] theorem sp_setSp_same (st : StackId) (v : Byte) (s : State) : sp st (setSp st v s) = v := by
  cases st <;> rfl

@[simp] theorem sp_setSp_other (st : StackId) (v : Byte) (s : State) :
    sp st.other (setSp st v s) = sp st.other s := by cases st <;> rfl

@[simp] theorem sp_setSp_of_other (st : StackId) (v : Byte) (s : State) :
    sp st (setSp st.other v s) = sp st s := by cases st <;> rfl

@[simp] theorem setSp_setSp (st : StackId) (v w : Byte) (s : State) :
    setSp st v (setSp st w s) = setSp st v s := by cases st <;> rfl

@[simp] theorem sp_ramWrite (st : StackId) (a : Addr) (v : Byte) (s : State) :
    sp st (ramWrite a v s) = sp st s := by cases st <;> rfl

@[simp] theorem sp_setPc (st : StackId) (a : Addr) (s : State) : sp st (setPc a s) = sp st s := by
  cases st <;> rfl

@[simp] theorem sp_setCarry (st : StackId) (c : Bool) (s : State) : sp st (setCarry c s) = sp st s := by
  cases st <;> rfl

@[simp] theorem sp_raise (st : StackId) (c : Cause) (s : State) : sp st (raise c s) = sp st s := by
  cases st <;> rfl

@[simp] theorem setPc_setPc (a b : Addr) (s : State) : setPc a (setPc b s) = setPc a s := rfl

end Sys2Proof.Machine
end

