-- ==== Sys2Proof/Laws/Ops.lean ====
section
/-! SUPPORT. What each shared operation can do, said once: the stack primitives, the takes, the router's reads
and the end of an instruction. Later proofs cite these lemmas instead of unfolding the operations. -/

namespace Sys2Proof.Machine

/-! ## Addresses -/

@[simp] theorem StackId.other_other (st : StackId) : st.other.other = st := by cases st <;> rfl

theorem isRam_iff (a : Addr) : isRam a = true ↔ a.toNat < 0xFF00 := by
  simp [isRam, Config.devBase, BitVec.lt_def]

theorem isRam_false_iff (a : Addr) : isRam a = false ↔ 0xFF00 ≤ a.toNat := by
  simp [isRam, Config.devBase, BitVec.lt_def]

/-- The number of a stack cell's address: the base of the page plus the index. -/
theorem cellAddr_toNat (st : StackId) (i : Byte) :
    (cellAddr st i).toNat = (stackBase st).toNat + i.toNat := by
  have hi := i.isLt
  cases st <;> simp [cellAddr, stackBase, zext16, Config.wstBase, Config.rstBase] <;> omega

/-- Every stack cell is RAM (10_state.md R30). -/
@[simp] theorem isRam_cellAddr (st : StackId) (i : Byte) : isRam (cellAddr st i) = true := by
  rw [isRam_iff, cellAddr_toNat]
  have hi := i.isLt
  cases st <;> simp [stackBase, Config.wstBase, Config.rstBase] <;> omega

theorem cellAddr_inj {st : StackId} {i j : Byte}
    (h : (cellAddr st i).toNat = (cellAddr st j).toNat) : i = j := by
  rw [cellAddr_toNat, cellAddr_toNat] at h
  exact BitVec.eq_of_toNat_eq (by omega)

theorem zext16_isRam (v : Byte) : isRam (zext16 v) = true ∧ isRam (zext16 v + 1) = true := by
  have h := v.isLt
  simp only [isRam_iff, zext16, BitVec.toNat_add, BitVec.toNat_setWidth]
  constructor
  · omega
  · simp; omega

@[simp] theorem hiLo_hiByte_loByte (v : Addr) : hiLo (hiByte v) (loByte v) = v := by
  apply BitVec.eq_of_getLsbD_eq
  intro i hi
  rw [hiLo, BitVec.getLsbD_append, loByte, hiByte, BitVec.getLsbD_extractLsb',
    BitVec.getLsbD_extractLsb']
  by_cases h : i < 8
  · simp [h]
  · have h8 : i - 8 < 8 := by omega
    have hs : 8 + (i - 8) = i := by omega
    simp [h, h8, hs]

@[simp] theorem hiByte_hiLo (hi lo : Byte) : hiByte (hiLo hi lo) = hi := by
  apply BitVec.eq_of_getLsbD_eq
  intro i h
  rw [hiByte, hiLo, BitVec.getLsbD_extractLsb', BitVec.getLsbD_append]
  simp [h]

@[simp] theorem loByte_hiLo (hi lo : Byte) : loByte (hiLo hi lo) = lo := by
  apply BitVec.eq_of_getLsbD_eq
  intro i h
  rw [loByte, hiLo, BitVec.getLsbD_extractLsb', BitVec.getLsbD_append]
  simp [h]

/-! ## Peeks, pops and takes -/

/-- A peek depends on RAM and the stack's own pointer alone. -/
theorem peek_congr {w : Width} {st : StackId} {o : Nat} {s t : State} (hr : t.ram = s.ram)
    (hs : sp st t = sp st s) : peek w st o t = peek w st o s := by
  cases w <;> simp [peek, peek8, peek16, peekIndex, ramRead, hr, hs]

/-- The index of a cell after the pointer moved past `c` cells. -/
theorem peekIndex_setSp (st : StackId) (c o : Nat) (s : State) :
    peekIndex st o (setSp st (sp st s + BitVec.ofNat 8 c) s) = peekIndex st (c + o) s := by
  unfold peekIndex
  rw [sp_setSp_same, BitVec.ofNat_add, ← BitVec.add_assoc]

/-- A peek after the pointer moved past `c` cells is a peek `c` cells deeper. -/
theorem peek_setSp (w : Width) (st : StackId) (c o : Nat) (s : State) :
    peek w st o (setSp st (sp st s + BitVec.ofNat 8 c) s) = peek w st (c + o) s := by
  cases w <;> simp only [peek, peek8, peek16, peekIndex_setSp, ramRead, setSp_ram, Nat.add_assoc]

theorem pop8_eq (st : StackId) (s : State) :
    pop8 st s = (peek8 st 0 s, setSp st (sp st s + BitVec.ofNat 8 1) s) := by
  have h : sp st s + BitVec.ofNat 8 0 + 1 = sp st s + 1 := congrArg (· + 1) (BitVec.add_zero _)
  simp only [pop8, peek8, peekIndex, h]
  rfl

/-- A pop is a peek at the top and a move of the pointer. -/
theorem pop_eq (w : Width) (st : StackId) (s : State) :
    pop w st s = (peek w st 0 s, setSp st (sp st s + BitVec.ofNat 8 w.bytes) s) := by
  cases w with
  | one => exact pop8_eq st s
  | two =>
    have hp := peek_setSp .one st 1 0 s
    simp only [peek] at hp
    simp only [pop, pop16, pop8_eq, peek, peek16, hp, sp_setSp_same, setSp_setSp, BitVec.add_assoc]
    rfl

@[simp] theorem dropCells_zero (m : Mode) (s : State) : dropCells m 0 s = s := by
  obtain ⟨k, st, w⟩ := m
  cases k <;> cases st <;> simp [dropCells, setSp, sp]

theorem sp_dropCells (m : Mode) (c : Nat) (s : State) :
    sp m.stack (dropCells m c s) =
      if m.keep then sp m.stack s else sp m.stack s + BitVec.ofNat 8 c := by
  unfold dropCells; split <;> simp

@[simp] theorem sp_other_dropCells (m : Mode) (c : Nat) (s : State) :
    sp m.stack.other (dropCells m c s) = sp m.stack.other s := by
  unfold dropCells; split <;> simp

/-- What a take gives and leaves, after the instruction has taken `c` cells already (40_cycle.md R114): in
keep mode and not, the value at depth `c`. -/
theorem take_dropCells (m : Mode) (w : Width) (c : Nat) (s : State) :
    take m w c (dropCells m c s) = (peek w m.stack c s, dropCells m (c + w.bytes) s) := by
  obtain ⟨k, st, d⟩ := m
  cases k
  · simp only [take, dropCells, Bool.false_eq_true, if_false, pop_eq, peek_setSp, sp_setSp_same,
      setSp_setSp, BitVec.ofNat_add, BitVec.add_assoc, Nat.add_zero]
  · rfl

/-- The first take of an instruction. -/
theorem take_first (m : Mode) (w : Width) (s : State) :
    take m w 0 s = (peek w m.stack 0 s, dropCells m w.bytes s) := by
  have h := take_dropCells m w 0 s
  rwa [dropCells_zero, Nat.zero_add] at h

/-- The two takes of a binary operation. -/
theorem takePair_eq (m : Mode) (s : State) :
    takePair m s = ⟨peek m.width m.stack m.width.bytes s, peek m.width m.stack 0 s,
      dropCells m (2 * m.width.bytes) s⟩ := by
  unfold takePair
  simp only [take_first, take_dropCells, Nat.two_mul]

/-- Where a jump goes, and what it leaves (43_compare_control.md R172). -/
theorem target_eq (m : Mode) (s : State) :
    target m s = (jumpAddr m.width (peek m.width m.stack 0 s) s, dropCells m m.width.bytes s) := by
  simp only [target, take_first]

/-! ## The carry flag -/

/-- C as a number is the flag byte's parity. -/
theorem carryNat_eq (s : State) : carryNat s = s.flags.toNat % 2 := by
  have h : ∀ f : Byte, (f.getLsbD 0).toNat = f.toNat % 2 := by decide
  exact h s.flags

/-- Writing C sets or clears bit 0. -/
theorem setCarry_eq (c : Bool) (s : State) :
    setCarry c s = { s with flags := if c then s.flags ||| 0x01 else s.flags &&& 0xFE } := by
  have h1 : ∀ f : Byte, (f &&& 0xFE) ||| 0x01 = f ||| 0x01 := by decide
  have h0 : ∀ f : Byte, (f &&& 0xFE) ||| 0x00 = f &&& 0xFE := by decide
  cases c
  · simp only [setCarry, Bool.false_eq_true, if_false, h0]
  · simp only [setCarry, if_true, h1]

/-- Writing C leaves bits 7:1 (10_state.md R25). -/
theorem setCarry_getLsbD (c : Bool) (s : State) {k : Nat} (hk : 0 < k) :
    (setCarry c s).flags.getLsbD k = s.flags.getLsbD k := by
  by_cases h8 : k < 8
  · have h : ∀ (c : Bool) (f : Byte) (k : Fin 8), 0 < k.val →
        ((f &&& 0xFE) ||| (if c then 0x01 else 0x00)).getLsbD k = f.getLsbD k := by decide
    exact h c s.flags ⟨k, h8⟩ hk
  · rw [BitVec.getLsbD_of_ge _ _ (by omega), BitVec.getLsbD_of_ge _ _ (by omega)]

/-! ## Pushes -/

/-- RAM after a push: the pushed bytes at the pointer and below it, low byte first. -/
theorem push_ram (w : Width) (st : StackId) (v : BitVec w.bits) (s : State) :
    (push w st v s).ram = match w, v with
      | .one, v => s.ram.write (cellAddr st (sp st s)).toNat v
      | .two, v => (s.ram.write (cellAddr st (sp st s)).toNat (loByte v)).write
          (cellAddr st (sp st s - 1)).toNat (hiByte v) := by
  cases w <;> simp [push, push16, push8]

/-- The pointer after a push. -/
@[simp] theorem sp_push (w : Width) (st : StackId) (v : BitVec w.bits) (s : State) :
    sp st (push w st v s) = sp st s - BitVec.ofNat 8 w.bytes := by
  cases w with
  | one => simp [push, push8]
  | two =>
    simp only [push, push16, push8, sp_setSp_same, Width.bytes]
    bv_omega

@[simp] theorem sp_other_push (w : Width) (st : StackId) (v : BitVec w.bits) (s : State) :
    sp st.other (push w st v s) = sp st.other s := by
  cases w <;> simp [push, push16, push8]

/-! ## The router's reads -/

/-- Whether a slot is populated depends on the slot table alone (10_state.md R29). -/
theorem present_congr {slot : Slot} {s t : State} (h : t.slots = s.slots) :
    present slot t = present slot s := by
  simp only [present, h]

/-- A read of RAM is the stored byte and has no effect (20_memory.md R55). -/
theorem read8_ram {a : Addr} {s : State} (h : isRam a = true) : read8 a s = (ramRead a s, s) := by
  simp [read8, h]

/-- What a read can do: nothing, or one read request, with the answer taken (20_memory.md R53, R61). -/
theorem read8_cases (a : Addr) (s : State) :
    (read8 a s).2 = s ∨ ∃ slot port, (read8 a s).2 =
      { s with readInputs := s.readInputs.tail, busTrace := s.busTrace ++ [.read slot port] } := by
  unfold read8 busRead
  split
  · exact .inl rfl
  · split
    · exact .inr ⟨_, _, rfl⟩
    · exact .inl rfl

/-- What a read leaves, as one update: some read requests at the end of the trace, as many answers taken. -/
theorem memRead_spec (w : Width) (a : Addr) (s : State) :
    ∃ reads : List (Slot × Port), reads.length ≤ w.bytes ∧
      (memRead w a s).2 = { s with
        readInputs := s.readInputs.drop reads.length
        busTrace := s.busTrace ++ reads.map fun r => BusEvent.read r.1 r.2 } := by
  have one : ∀ (a : Addr) (s : State), ∃ reads : List (Slot × Port), reads.length ≤ 1 ∧
      (read8 a s).2 = { s with
        readInputs := s.readInputs.drop reads.length
        busTrace := s.busTrace ++ reads.map fun r => BusEvent.read r.1 r.2 } := by
    intro a s
    rcases read8_cases a s with h | ⟨slot, port, h⟩
    · exact ⟨[], by simp, by simp [h]⟩
    · exact ⟨[(slot, port)], by simp, by simp [h, List.drop_one]⟩
  cases w with
  | one => exact one a s
  | two =>
    obtain ⟨r1, h1, e1⟩ := one a s
    obtain ⟨r2, h2, e2⟩ := one (a + 1) (read8 a s).2
    refine ⟨r1 ++ r2, by simp only [List.length_append, Width.bytes]; omega, ?_⟩
    simp only [memRead, read16, e2]
    simp [e1, List.drop_drop]

end Sys2Proof.Machine
end

