-- ==== Sys2Proof/Laws/Bus.lean ====
section
/-! SUPPORT. What a write through the memory router can do, said once: nothing but the stored byte in RAM, and in
the device region what `BusKeeps` lists, whatever the devices answer. -/

namespace Sys2Proof.Machine

/-! ## Writes to RAM -/

/-- A write to RAM has no effect but the stored byte, at any fuel (20_memory.md R55). -/
theorem write8_ram {fuel : Nat} {a : Addr} {v : Byte} {s : State} (h : isRam a = true) :
    write8 fuel a v s = .done (ramWrite a v s) := by
  cases fuel <;> simp [write8, write8With, h]

/-- The two bytes of a 16-bit access have different addresses. -/
theorem toNat_ne_succ (a : Addr) : a.toNat ≠ (a + 1).toNat := by
  intro h
  have := BitVec.eq_of_toNat_eq h
  bv_omega

/-- A 16-bit write to RAM is the two stored bytes, high byte first (20_memory.md R57). -/
theorem write16_ram {fuel : Nat} {a v : Addr} {s : State} (h : isRam a = true)
    (h' : isRam (a + 1) = true) :
    write16 fuel a v s = .done (ramWrite (a + 1) (loByte v) (ramWrite a (hiByte v) s)) := by
  simp only [write16, write8_ram h, Flow.andThen, write8_ram h']

/-- A write to an unpopulated slot has no effect (20_memory.md R62). -/
theorem write8_absent {fuel : Nat} {a : Addr} {v : Byte} {s : State} (h : isRam a = false)
    (hp : present (busSlot (loByte a)) s = false) : write8 fuel a v s = .done s := by
  cases fuel <;> simp [write8, write8With, h, busWrite, hp, applyResponse]

/-- At every fuel a write is one level over a nested write, which stores in RAM and ignores unpopulated slots. -/
theorem write8_level (fuel : Nat) : ∃ w8 : Addr → Byte → State → Flow,
    (∀ a v s, write8 fuel a v s = write8With w8 a v s) ∧
    (∀ a v s, isRam a = true → w8 a v s = .done (ramWrite a v s)) ∧
    ∀ a v s, isRam a = false → present (busSlot (loByte a)) s = false → w8 a v s = .done s := by
  cases fuel with
  | zero =>
    exact ⟨write8Last, fun _ _ _ => rfl, fun _ _ _ h => by simp [write8Last, h],
      fun _ _ _ h hp => by simp [write8Last, h, hp]⟩
  | succ n => exact ⟨write8 n, fun _ _ _ => rfl, fun _ _ _ => write8_ram, fun _ _ _ => write8_absent⟩

/-- A write to a populated port is the device's answer, acted on by the bus and applied by the router
(20_memory.md R54, R62). -/
theorem write8With_present {w8 : Addr → Byte → State → Flow} {a : Addr} {v : Byte} {s : State}
    (h : isRam a = false) (hp : present (busSlot (loByte a)) s = true) :
    write8With w8 a v s =
      applyResponse w8 (writeAnswer (busSlot (loByte a)) (busPort (loByte a)) v s)
        (busRespond (busSlot (loByte a)) (writeAnswer (busSlot (loByte a)) (busPort (loByte a)) v s)
          { s with
            writeInputs := s.writeInputs.tail
            busTrace := s.busTrace ++ [.write (busSlot (loByte a)) (busPort (loByte a)) v] }) := by
  simp only [write8With, h, busWrite, hp, if_true, Bool.false_eq_true, if_false]

/-! ## What any write keeps -/

/-- What a write leaves alone, whatever the devices answer: the stack pointers, the flags, the program counter,
the slot table and the fuel; the trace only grows, RAM keeps its canonical form, and `last_dma_source`
stays on a populated slot. -/
structure BusKeeps (s t : State) : Prop where
  wsp : t.wsp = s.wsp
  rsp : t.rsp = s.rsp
  flags : t.flags = s.flags
  pc : t.pc = s.pc
  slots : t.slots = s.slots
  dmaFuel : t.dmaFuel = s.dmaFuel
  trace : ∃ more, t.busTrace = s.busTrace ++ more
  wf : s.ram.wf = true → t.ram.wf = true
  source : (∀ slot, s.lastDmaSource = some slot → present slot s = true) →
    ∀ slot, t.lastDmaSource = some slot → present slot t = true

theorem BusKeeps.refl (s : State) : BusKeeps s s :=
  ⟨rfl, rfl, rfl, rfl, rfl, rfl, ⟨[], by simp⟩, id, id⟩

theorem BusKeeps.trans {s t u : State} (h : BusKeeps s t) (h' : BusKeeps t u) : BusKeeps s u where
  wsp := h'.wsp.trans h.wsp
  rsp := h'.rsp.trans h.rsp
  flags := h'.flags.trans h.flags
  pc := h'.pc.trans h.pc
  slots := h'.slots.trans h.slots
  dmaFuel := h'.dmaFuel.trans h.dmaFuel
  trace := by
    obtain ⟨x, hx⟩ := h.trace
    obtain ⟨y, hy⟩ := h'.trace
    exact ⟨x ++ y, by rw [hy, hx, List.append_assoc]⟩
  wf := h'.wf ∘ h.wf
  source := h'.source ∘ h.source

theorem BusKeeps.ramWrite {a : Addr} (h : isRam a = true) (v : Byte) (s : State) :
    BusKeeps s (ramWrite a v s) where
  wsp := rfl
  rsp := rfl
  flags := rfl
  pc := rfl
  slots := rfl
  dmaFuel := rfl
  trace := ⟨[], by simp⟩
  wf hw := Memory.wf_write v hw (by
    simp only [isRam, decide_eq_true_eq, BitVec.lt_def] at h
    exact h)
  source hs := hs

/-- How a write ends: in a state that it keeps, with the status as it was, or halted with a code, or stuck. -/
def Flow.keeps (f : Flow) (s : State) : Prop :=
  match f with
  | .done t => BusKeeps s t ∧ t.status = s.status
  | .halted t => BusKeeps s t ∧ ∃ code, t.status = .halted code
  | .stuck => True

/-- A write after what was kept already keeps as much. -/
theorem Flow.keeps_of {f : Flow} {s t : State} (h : BusKeeps s t) (hs : t.status = s.status)
    (hf : f.keeps t) : f.keeps s := by
  cases f with
  | done u => exact ⟨h.trans hf.1, hf.2.trans hs⟩
  | halted u => exact ⟨h.trans hf.1, hf.2⟩
  | stuck => trivial

theorem Flow.keeps_andThen {f : Flow} {k : State → Flow} {s : State} (hf : f.keeps s)
    (hk : ∀ t, (k t).keeps t) : (f.andThen k).keeps s := by
  cases f with
  | done t => exact Flow.keeps_of hf.1 hf.2 (hk t)
  | halted t => exact hf
  | stuck => trivial

/-- A read can only make requests (20_memory.md R55, R61). -/
theorem memRead_keeps (w : Width) (a : Addr) (s : State) :
    BusKeeps s (memRead w a s).2 ∧ (memRead w a s).2.status = s.status ∧
      (memRead w a s).2.ram = s.ram := by
  obtain ⟨reads, -, h⟩ := memRead_spec w a s
  rw [h]
  exact ⟨⟨rfl, rfl, rfl, rfl, rfl, rfl, ⟨_, rfl⟩, id, id⟩, rfl, rfl⟩

theorem readBytes_keeps (a : Addr) (len : Nat) (s : State) :
    BusKeeps s (readBytes a len s).2 ∧ (readBytes a len s).2.status = s.status ∧
      (readBytes a len s).2.ram = s.ram := by
  induction len generalizing a s with
  | zero => exact ⟨BusKeeps.refl s, rfl, rfl⟩
  | succ n ih =>
    have h := memRead_keeps .one a s
    have h' := ih (a + 1) (read8 a s).2
    exact ⟨h.1.trans h'.1, h'.2.1.trans h.2.1, h'.2.2.trans h.2.2⟩

/-- The delivery of a memory-to-device DMA only makes the callback (20_memory.md R68). -/
theorem dmaDeliver_keeps (bytes : List Byte) (s : State) :
    BusKeeps s (dmaDeliver bytes s) ∧ (dmaDeliver bytes s).status = s.status ∧
      (dmaDeliver bytes s).ram = s.ram := by
  have hr : BusKeeps s s ∧ s.status = s.status ∧ s.ram = s.ram := ⟨BusKeeps.refl s, rfl, rfl⟩
  unfold dmaDeliver
  split
  · exact hr
  · split
    · exact ⟨⟨rfl, rfl, rfl, rfl, rfl, rfl, ⟨_, rfl⟩, id, id⟩, rfl, rfl⟩
    · exact hr

theorem applyD2m_keeps {w8 : Addr → Byte → State → Flow} (h : ∀ a v s, (w8 a v s).keeps s)
    (t : Addr) (bytes : List Byte) (s : State) : (applyD2m w8 t bytes s).keeps s := by
  induction bytes generalizing t s with
  | nil => exact ⟨BusKeeps.refl s, rfl⟩
  | cons b rest ih => exact Flow.keeps_andThen (h t b s) (ih (t + 1))

theorem applyResponse_keeps {w8 : Addr → Byte → State → Flow} (h : ∀ a v s, (w8 a v s).keeps s)
    {slot : Slot} (r : Response) {s : State} (hp : present slot s = true) :
    (applyResponse w8 r (busRespond slot r s)).keeps s := by
  cases r with
  | none => exact ⟨BusKeeps.refl s, rfl⟩
  | devToMem t bytes => exact applyD2m_keeps h t bytes s
  | memToDev t len =>
    have h0 : BusKeeps s (busRespond slot (.memToDev t len) s) :=
      ⟨rfl, rfl, rfl, rfl, rfl, rfl, ⟨[], by simp [busRespond]⟩, id,
        fun _ k hk => by cases hk; exact hp⟩
    have h1 := readBytes_keeps t len (busRespond slot (.memToDev t len) s)
    have h2 := dmaDeliver_keeps (readBytes t len (busRespond slot (.memToDev t len) s)).1
      (readBytes t len (busRespond slot (.memToDev t len) s)).2
    exact ⟨h0.trans (h1.1.trans h2.1), h2.2.1.trans h1.2.1⟩
  | shutdown code =>
    exact ⟨⟨rfl, rfl, rfl, rfl, rfl, rfl, ⟨_, rfl⟩, id, id⟩, code, rfl⟩

theorem write8With_keeps {w8 : Addr → Byte → State → Flow} (h : ∀ a v s, (w8 a v s).keeps s)
    (a : Addr) (v : Byte) (s : State) : (write8With w8 a v s).keeps s := by
  unfold write8With
  split
  · next hr => exact ⟨BusKeeps.ramWrite hr v s, rfl⟩
  · unfold busWrite
    split
    · next hp =>
      let q : State := { s with
        writeInputs := s.writeInputs.tail
        busTrace := s.busTrace ++ [.write (busSlot (loByte a)) (busPort (loByte a)) v] }
      have hq : BusKeeps s q := ⟨rfl, rfl, rfl, rfl, rfl, rfl, ⟨_, rfl⟩, id, id⟩
      exact Flow.keeps_of hq rfl (applyResponse_keeps (s := q) h
        (writeAnswer (busSlot (loByte a)) (busPort (loByte a)) v s) hp)
    · exact ⟨BusKeeps.refl s, rfl⟩

/-- What any one-byte write keeps. -/
theorem write8_keeps (fuel : Nat) (a : Addr) (v : Byte) (s : State) : (write8 fuel a v s).keeps s := by
  induction fuel generalizing a v s with
  | zero =>
    refine write8With_keeps (fun a v s => ?_) a v s
    unfold write8Last
    split
    · next hr => exact ⟨BusKeeps.ramWrite hr v s, rfl⟩
    · split
      · trivial
      · exact ⟨BusKeeps.refl s, rfl⟩
  | succ n ih => exact write8With_keeps ih a v s

/-- What any write of an instruction keeps. -/
theorem memWrite_keeps (w : Width) (a : Addr) (v : BitVec w.bits) (s : State) :
    (memWrite w a v s).keeps s := by
  cases w with
  | one => exact write8_keeps _ a v s
  | two => exact Flow.keeps_andThen (write8_keeps _ a (hiByte v) s) fun t => write8_keeps _ _ _ t

/-- A byte stored in a stack cell keeps the canonical form. -/
theorem wf_write_cell {m : Memory} (st : StackId) (i b : Byte) (hm : m.wf = true) :
    (m.write (cellAddr st i).toNat b).wf = true := by
  refine Memory.wf_write b hm ?_
  have := (isRam_iff (cellAddr st i)).mp (isRam_cellAddr st i)
  simpa [Config.devBase] using this

/-- A poke stores in RAM and keeps everything else, the canonical form among it. -/
theorem poke_keeps (w : Width) (st : StackId) (o : Nat) (v : BitVec w.bits) (s : State) :
    poke w st o v s = { s with ram := (poke w st o v s).ram } ∧
      (s.ram.wf = true → (poke w st o v s).ram.wf = true) := by
  refine ⟨by cases w <;> rfl, fun hm => ?_⟩
  cases w
  · exact wf_write_cell _ _ _ hm
  · exact wf_write_cell _ _ _ (wf_write_cell _ _ _ hm)

/-- A push moves the stack pointer, stores in RAM and keeps everything else, the canonical form among it. -/
theorem push_keeps (w : Width) (st : StackId) (v : BitVec w.bits) (s : State) :
    push w st v s = setSp st (sp st s - BitVec.ofNat 8 w.bytes) { s with ram := (push w st v s).ram } ∧
      (s.ram.wf = true → (push w st v s).ram.wf = true) := by
  have h2 : ∀ x : Byte, x - 1 - 1 = x - BitVec.ofNat 8 2 := by
    intro x
    bv_omega
  refine ⟨?_, ?_⟩
  · cases w <;> cases st <;> simp only [push, push16, push8, setSp, sp, ramWrite, Width.bytes, h2] <;> rfl
  · intro hm
    rw [push_ram]
    cases w
    · exact wf_write_cell _ _ _ hm
    · exact wf_write_cell _ _ _ (wf_write_cell _ _ _ hm)

/-- Reset's memory has the canonical form. -/
theorem reset_ram_wf : State.reset.ram.wf = true := rfl

end Sys2Proof.Machine
end

