-- ==== Sys2Proof/Laws/Exec.lean ====
section
/-! SUPPORT. What exec does with each form: one equation per base operation, over its mode, and the case analysis of
an instruction into its forms. -/

namespace Sys2Proof.Machine

/-- What a load does, its operand read (44_memory_access.md R190, R192, R194). -/
theorem loadOp_eq (k : Addressing) (m : Mode) (s : State) :
    loadOp k m s = push m.width m.stack
      (memRead m.width (effectiveAddr k (peek k.operand m.stack 0 s) s) (dropCells m k.operand.bytes s)).1
      (memRead m.width (effectiveAddr k (peek k.operand m.stack 0 s) s) (dropCells m k.operand.bytes s)).2 := by
  simp only [loadOp, take_first]

/-- What a store does, its operands read (44_memory_access.md R191, R193, R195). -/
theorem storeOp_eq (k : Addressing) (m : Mode) (s : State) :
    storeOp k m s = memWrite m.width (effectiveAddr k (peek k.operand m.stack 0 s) s)
      (peek m.width m.stack k.operand.bytes s) (dropCells m (k.operand.bytes + m.width.bytes) s) := by
  simp only [storeOp, take_first, take_dropCells]

theorem exec_form_pop (m : Mode) (s : State) (h : wellFormedForm .pop m = true) :
    exec (form .pop m) s = complete (popOp m s) := by
  obtain ⟨_ | _, _ | _, _ | _⟩ := m <;> first | rfl | exact absurd h (by decide)

theorem exec_form_swp (m : Mode) (s : State) :
    exec (form .swp m) s = complete (swpOp m s) := by
  obtain ⟨_ | _, _ | _, _ | _⟩ := m <;> rfl

theorem exec_form_rot (m : Mode) (s : State) :
    exec (form .rot m) s = complete (rotOp m s) := by
  obtain ⟨_ | _, _ | _, _ | _⟩ := m <;> rfl

theorem exec_form_dup (m : Mode) (s : State) :
    exec (form .dup m) s = complete (dupOp m s) := by
  obtain ⟨_ | _, _ | _, _ | _⟩ := m <;> rfl

theorem exec_form_ovr (m : Mode) (s : State) :
    exec (form .ovr m) s = complete (ovrOp m s) := by
  obtain ⟨_ | _, _ | _, _ | _⟩ := m <;> rfl

theorem exec_form_equ (m : Mode) (s : State) :
    exec (form .equ m) s = complete (equOp m s) := by
  obtain ⟨_ | _, _ | _, _ | _⟩ := m <;> rfl

theorem exec_form_gth (m : Mode) (s : State) :
    exec (form .gth m) s = complete (gthOp m s) := by
  obtain ⟨_ | _, _ | _, _ | _⟩ := m <;> rfl

theorem exec_form_jmp (m : Mode) (s : State) :
    exec (form .jmp m) s = complete (jmpOp m s) := by
  obtain ⟨_ | _, _ | _, _ | _⟩ := m <;> rfl

theorem exec_form_jcn (m : Mode) (s : State) :
    exec (form .jcn m) s = complete (jcnOp m s) := by
  obtain ⟨_ | _, _ | _, _ | _⟩ := m <;> rfl

theorem exec_form_jsr (m : Mode) (s : State) :
    exec (form .jsr m) s = complete (jsrOp m s) := by
  obtain ⟨_ | _, _ | _, _ | _⟩ := m <;> rfl

theorem exec_form_sth (m : Mode) (s : State) :
    exec (form .sth m) s = complete (sthOp m s) := by
  obtain ⟨_ | _, _ | _, _ | _⟩ := m <;> rfl

theorem exec_form_ldz (m : Mode) (s : State) :
    exec (form .ldz m) s = complete (loadOp .zeroPage m s) := by
  obtain ⟨_ | _, _ | _, _ | _⟩ := m <;> rfl

theorem exec_form_stz (m : Mode) (s : State) :
    exec (form .stz m) s = (storeOp .zeroPage m s).complete := by
  obtain ⟨_ | _, _ | _, _ | _⟩ := m <;> rfl

theorem exec_form_ldr (m : Mode) (s : State) :
    exec (form .ldr m) s = complete (loadOp .relative m s) := by
  obtain ⟨_ | _, _ | _, _ | _⟩ := m <;> rfl

theorem exec_form_str (m : Mode) (s : State) :
    exec (form .str m) s = (storeOp .relative m s).complete := by
  obtain ⟨_ | _, _ | _, _ | _⟩ := m <;> rfl

theorem exec_form_lda (m : Mode) (s : State) :
    exec (form .lda m) s = complete (loadOp .absolute m s) := by
  obtain ⟨_ | _, _ | _, _ | _⟩ := m <;> rfl

theorem exec_form_sta (m : Mode) (s : State) :
    exec (form .sta m) s = (storeOp .absolute m s).complete := by
  obtain ⟨_ | _, _ | _, _ | _⟩ := m <;> rfl

theorem exec_form_pic (m : Mode) (s : State) :
    exec (form .pic m) s = complete (picOp m s) := by
  obtain ⟨_ | _, _ | _, _ | _⟩ := m <;> rfl

theorem exec_form_put (m : Mode) (s : State) :
    exec (form .put m) s = complete (putOp m s) := by
  obtain ⟨_ | _, _ | _, _ | _⟩ := m <;> rfl

theorem exec_form_adc (m : Mode) (s : State) :
    exec (form .adc m) s = complete (adcOp m s) := by
  obtain ⟨_ | _, _ | _, _ | _⟩ := m <;> rfl

theorem exec_form_sbc (m : Mode) (s : State) :
    exec (form .sbc m) s = complete (sbcOp m s) := by
  obtain ⟨_ | _, _ | _, _ | _⟩ := m <;> rfl

theorem exec_form_mul (m : Mode) (s : State) :
    exec (form .mul m) s = complete (mulOp m s) := by
  obtain ⟨_ | _, _ | _, _ | _⟩ := m <;> rfl

theorem exec_form_dvm (m : Mode) (s : State) :
    exec (form .dvm m) s = dvmOp m s := by
  obtain ⟨_ | _, _ | _, _ | _⟩ := m <;> rfl

theorem exec_form_and (m : Mode) (s : State) :
    exec (form .and m) s = complete (andOp m s) := by
  obtain ⟨_ | _, _ | _, _ | _⟩ := m <;> rfl

theorem exec_form_ior (m : Mode) (s : State) :
    exec (form .ior m) s = complete (iorOp m s) := by
  obtain ⟨_ | _, _ | _, _ | _⟩ := m <;> rfl

theorem exec_form_xor (m : Mode) (s : State) :
    exec (form .xor m) s = complete (xorOp m s) := by
  obtain ⟨_ | _, _ | _, _ | _⟩ := m <;> rfl

theorem exec_form_sft (m : Mode) (s : State) :
    exec (form .sft m) s = complete (sftOp m s) := by
  obtain ⟨_ | _, _ | _, _ | _⟩ := m <;> rfl

theorem exec_reservedForm (op : ReservedOp) (m : Mode) (s : State) :
    exec (reservedForm op m) s = complete s := by
  obtain ⟨_ | _, _ | _, _ | _⟩ := m <;> cases op <;> rfl

theorem exec_litForm (st : StackId) (w : Width) (imm : BitVec w.bits) (s : State) :
    exec (litForm st w imm) s = complete (pushLiteral st w imm s) := by
  cases st <;> cases w <;> rfl

/-- Every instruction is a LIT, one of the five single bytes, a reserved no-op, or a form of a base operation
(30_encoding.md R93). -/
theorem instr_cases (i : Instr) :
    (∃ st w imm, i = litForm st w imm) ∨ i = .nop ∨ i = .sec ∨ i = .clc ∨ i = .ext ∨ i = .rti ∨
    (∃ op m, i = reservedForm op m) ∨ ∃ op m, wellFormedForm op m = true ∧ i = form op m := by
  cases i with
  | nop => exact .inr (.inl rfl)
  | rsv01 => exact .inr (.inr (.inr (.inr (.inr (.inr (.inl ⟨.op1, ⟨false, .working, .one⟩, rfl⟩))))))
  | rsv02 => exact .inr (.inr (.inr (.inr (.inr (.inr (.inl ⟨.op2, ⟨false, .working, .one⟩, rfl⟩))))))
  | pop => exact .inr (.inr (.inr (.inr (.inr (.inr (.inr ⟨.pop, ⟨false, .working, .one⟩, rfl, rfl⟩))))))
  | swp => exact .inr (.inr (.inr (.inr (.inr (.inr (.inr ⟨.swp, ⟨false, .working, .one⟩, rfl, rfl⟩))))))
  | rot => exact .inr (.inr (.inr (.inr (.inr (.inr (.inr ⟨.rot, ⟨false, .working, .one⟩, rfl, rfl⟩))))))
  | dup => exact .inr (.inr (.inr (.inr (.inr (.inr (.inr ⟨.dup, ⟨false, .working, .one⟩, rfl, rfl⟩))))))
  | ovr => exact .inr (.inr (.inr (.inr (.inr (.inr (.inr ⟨.ovr, ⟨false, .working, .one⟩, rfl, rfl⟩))))))
  | equ => exact .inr (.inr (.inr (.inr (.inr (.inr (.inr ⟨.equ, ⟨false, .working, .one⟩, rfl, rfl⟩))))))
  | gth => exact .inr (.inr (.inr (.inr (.inr (.inr (.inr ⟨.gth, ⟨false, .working, .one⟩, rfl, rfl⟩))))))
  | jmp => exact .inr (.inr (.inr (.inr (.inr (.inr (.inr ⟨.jmp, ⟨false, .working, .one⟩, rfl, rfl⟩))))))
  | jcn => exact .inr (.inr (.inr (.inr (.inr (.inr (.inr ⟨.jcn, ⟨false, .working, .one⟩, rfl, rfl⟩))))))
  | jsr => exact .inr (.inr (.inr (.inr (.inr (.inr (.inr ⟨.jsr, ⟨false, .working, .one⟩, rfl, rfl⟩))))))
  | sth => exact .inr (.inr (.inr (.inr (.inr (.inr (.inr ⟨.sth, ⟨false, .working, .one⟩, rfl, rfl⟩))))))
  | rsv0E => exact .inr (.inr (.inr (.inr (.inr (.inr (.inl ⟨.opE, ⟨false, .working, .one⟩, rfl⟩))))))
  | rsv0F => exact .inr (.inr (.inr (.inr (.inr (.inr (.inl ⟨.opF, ⟨false, .working, .one⟩, rfl⟩))))))
  | ldz => exact .inr (.inr (.inr (.inr (.inr (.inr (.inr ⟨.ldz, ⟨false, .working, .one⟩, rfl, rfl⟩))))))
  | stz => exact .inr (.inr (.inr (.inr (.inr (.inr (.inr ⟨.stz, ⟨false, .working, .one⟩, rfl, rfl⟩))))))
  | ldr => exact .inr (.inr (.inr (.inr (.inr (.inr (.inr ⟨.ldr, ⟨false, .working, .one⟩, rfl, rfl⟩))))))
  | str => exact .inr (.inr (.inr (.inr (.inr (.inr (.inr ⟨.str, ⟨false, .working, .one⟩, rfl, rfl⟩))))))
  | lda => exact .inr (.inr (.inr (.inr (.inr (.inr (.inr ⟨.lda, ⟨false, .working, .one⟩, rfl, rfl⟩))))))
  | sta => exact .inr (.inr (.inr (.inr (.inr (.inr (.inr ⟨.sta, ⟨false, .working, .one⟩, rfl, rfl⟩))))))
  | pic => exact .inr (.inr (.inr (.inr (.inr (.inr (.inr ⟨.pic, ⟨false, .working, .one⟩, rfl, rfl⟩))))))
  | put => exact .inr (.inr (.inr (.inr (.inr (.inr (.inr ⟨.put, ⟨false, .working, .one⟩, rfl, rfl⟩))))))
  | adc => exact .inr (.inr (.inr (.inr (.inr (.inr (.inr ⟨.adc, ⟨false, .working, .one⟩, rfl, rfl⟩))))))
  | sbc => exact .inr (.inr (.inr (.inr (.inr (.inr (.inr ⟨.sbc, ⟨false, .working, .one⟩, rfl, rfl⟩))))))
  | mul => exact .inr (.inr (.inr (.inr (.inr (.inr (.inr ⟨.mul, ⟨false, .working, .one⟩, rfl, rfl⟩))))))
  | dvm => exact .inr (.inr (.inr (.inr (.inr (.inr (.inr ⟨.dvm, ⟨false, .working, .one⟩, rfl, rfl⟩))))))
  | and => exact .inr (.inr (.inr (.inr (.inr (.inr (.inr ⟨.and, ⟨false, .working, .one⟩, rfl, rfl⟩))))))
  | ior => exact .inr (.inr (.inr (.inr (.inr (.inr (.inr ⟨.ior, ⟨false, .working, .one⟩, rfl, rfl⟩))))))
  | xor => exact .inr (.inr (.inr (.inr (.inr (.inr (.inr ⟨.xor, ⟨false, .working, .one⟩, rfl, rfl⟩))))))
  | sft => exact .inr (.inr (.inr (.inr (.inr (.inr (.inr ⟨.sft, ⟨false, .working, .one⟩, rfl, rfl⟩))))))
  | sec => exact .inr (.inr (.inl rfl))
  | rsv21 => exact .inr (.inr (.inr (.inr (.inr (.inr (.inl ⟨.op1, ⟨false, .working, .two⟩, rfl⟩))))))
  | rsv22 => exact .inr (.inr (.inr (.inr (.inr (.inr (.inl ⟨.op2, ⟨false, .working, .two⟩, rfl⟩))))))
  | pop2 => exact .inr (.inr (.inr (.inr (.inr (.inr (.inr ⟨.pop, ⟨false, .working, .two⟩, rfl, rfl⟩))))))
  | swp2 => exact .inr (.inr (.inr (.inr (.inr (.inr (.inr ⟨.swp, ⟨false, .working, .two⟩, rfl, rfl⟩))))))
  | rot2 => exact .inr (.inr (.inr (.inr (.inr (.inr (.inr ⟨.rot, ⟨false, .working, .two⟩, rfl, rfl⟩))))))
  | dup2 => exact .inr (.inr (.inr (.inr (.inr (.inr (.inr ⟨.dup, ⟨false, .working, .two⟩, rfl, rfl⟩))))))
  | ovr2 => exact .inr (.inr (.inr (.inr (.inr (.inr (.inr ⟨.ovr, ⟨false, .working, .two⟩, rfl, rfl⟩))))))
  | equ2 => exact .inr (.inr (.inr (.inr (.inr (.inr (.inr ⟨.equ, ⟨false, .working, .two⟩, rfl, rfl⟩))))))
  | gth2 => exact .inr (.inr (.inr (.inr (.inr (.inr (.inr ⟨.gth, ⟨false, .working, .two⟩, rfl, rfl⟩))))))
  | jmp2 => exact .inr (.inr (.inr (.inr (.inr (.inr (.inr ⟨.jmp, ⟨false, .working, .two⟩, rfl, rfl⟩))))))
  | jcn2 => exact .inr (.inr (.inr (.inr (.inr (.inr (.inr ⟨.jcn, ⟨false, .working, .two⟩, rfl, rfl⟩))))))
  | jsr2 => exact .inr (.inr (.inr (.inr (.inr (.inr (.inr ⟨.jsr, ⟨false, .working, .two⟩, rfl, rfl⟩))))))
  | sth2 => exact .inr (.inr (.inr (.inr (.inr (.inr (.inr ⟨.sth, ⟨false, .working, .two⟩, rfl, rfl⟩))))))
  | rsv2E => exact .inr (.inr (.inr (.inr (.inr (.inr (.inl ⟨.opE, ⟨false, .working, .two⟩, rfl⟩))))))
  | rsv2F => exact .inr (.inr (.inr (.inr (.inr (.inr (.inl ⟨.opF, ⟨false, .working, .two⟩, rfl⟩))))))
  | ldz2 => exact .inr (.inr (.inr (.inr (.inr (.inr (.inr ⟨.ldz, ⟨false, .working, .two⟩, rfl, rfl⟩))))))
  | stz2 => exact .inr (.inr (.inr (.inr (.inr (.inr (.inr ⟨.stz, ⟨false, .working, .two⟩, rfl, rfl⟩))))))
  | ldr2 => exact .inr (.inr (.inr (.inr (.inr (.inr (.inr ⟨.ldr, ⟨false, .working, .two⟩, rfl, rfl⟩))))))
  | str2 => exact .inr (.inr (.inr (.inr (.inr (.inr (.inr ⟨.str, ⟨false, .working, .two⟩, rfl, rfl⟩))))))
  | lda2 => exact .inr (.inr (.inr (.inr (.inr (.inr (.inr ⟨.lda, ⟨false, .working, .two⟩, rfl, rfl⟩))))))
  | sta2 => exact .inr (.inr (.inr (.inr (.inr (.inr (.inr ⟨.sta, ⟨false, .working, .two⟩, rfl, rfl⟩))))))
  | pic2 => exact .inr (.inr (.inr (.inr (.inr (.inr (.inr ⟨.pic, ⟨false, .working, .two⟩, rfl, rfl⟩))))))
  | put2 => exact .inr (.inr (.inr (.inr (.inr (.inr (.inr ⟨.put, ⟨false, .working, .two⟩, rfl, rfl⟩))))))
  | adc2 => exact .inr (.inr (.inr (.inr (.inr (.inr (.inr ⟨.adc, ⟨false, .working, .two⟩, rfl, rfl⟩))))))
  | sbc2 => exact .inr (.inr (.inr (.inr (.inr (.inr (.inr ⟨.sbc, ⟨false, .working, .two⟩, rfl, rfl⟩))))))
  | mul2 => exact .inr (.inr (.inr (.inr (.inr (.inr (.inr ⟨.mul, ⟨false, .working, .two⟩, rfl, rfl⟩))))))
  | dvm2 => exact .inr (.inr (.inr (.inr (.inr (.inr (.inr ⟨.dvm, ⟨false, .working, .two⟩, rfl, rfl⟩))))))
  | and2 => exact .inr (.inr (.inr (.inr (.inr (.inr (.inr ⟨.and, ⟨false, .working, .two⟩, rfl, rfl⟩))))))
  | ior2 => exact .inr (.inr (.inr (.inr (.inr (.inr (.inr ⟨.ior, ⟨false, .working, .two⟩, rfl, rfl⟩))))))
  | xor2 => exact .inr (.inr (.inr (.inr (.inr (.inr (.inr ⟨.xor, ⟨false, .working, .two⟩, rfl, rfl⟩))))))
  | sft2 => exact .inr (.inr (.inr (.inr (.inr (.inr (.inr ⟨.sft, ⟨false, .working, .two⟩, rfl, rfl⟩))))))
  | clc => exact .inr (.inr (.inr (.inl rfl)))
  | rsv41 => exact .inr (.inr (.inr (.inr (.inr (.inr (.inl ⟨.op1, ⟨false, .ret, .one⟩, rfl⟩))))))
  | rsv42 => exact .inr (.inr (.inr (.inr (.inr (.inr (.inl ⟨.op2, ⟨false, .ret, .one⟩, rfl⟩))))))
  | popr => exact .inr (.inr (.inr (.inr (.inr (.inr (.inr ⟨.pop, ⟨false, .ret, .one⟩, rfl, rfl⟩))))))
  | swpr => exact .inr (.inr (.inr (.inr (.inr (.inr (.inr ⟨.swp, ⟨false, .ret, .one⟩, rfl, rfl⟩))))))
  | rotr => exact .inr (.inr (.inr (.inr (.inr (.inr (.inr ⟨.rot, ⟨false, .ret, .one⟩, rfl, rfl⟩))))))
  | dupr => exact .inr (.inr (.inr (.inr (.inr (.inr (.inr ⟨.dup, ⟨false, .ret, .one⟩, rfl, rfl⟩))))))
  | ovrr => exact .inr (.inr (.inr (.inr (.inr (.inr (.inr ⟨.ovr, ⟨false, .ret, .one⟩, rfl, rfl⟩))))))
  | equr => exact .inr (.inr (.inr (.inr (.inr (.inr (.inr ⟨.equ, ⟨false, .ret, .one⟩, rfl, rfl⟩))))))
  | gthr => exact .inr (.inr (.inr (.inr (.inr (.inr (.inr ⟨.gth, ⟨false, .ret, .one⟩, rfl, rfl⟩))))))
  | jmpr => exact .inr (.inr (.inr (.inr (.inr (.inr (.inr ⟨.jmp, ⟨false, .ret, .one⟩, rfl, rfl⟩))))))
  | jcnr => exact .inr (.inr (.inr (.inr (.inr (.inr (.inr ⟨.jcn, ⟨false, .ret, .one⟩, rfl, rfl⟩))))))
  | jsrr => exact .inr (.inr (.inr (.inr (.inr (.inr (.inr ⟨.jsr, ⟨false, .ret, .one⟩, rfl, rfl⟩))))))
  | sthr => exact .inr (.inr (.inr (.inr (.inr (.inr (.inr ⟨.sth, ⟨false, .ret, .one⟩, rfl, rfl⟩))))))
  | rsv4E => exact .inr (.inr (.inr (.inr (.inr (.inr (.inl ⟨.opE, ⟨false, .ret, .one⟩, rfl⟩))))))
  | rsv4F => exact .inr (.inr (.inr (.inr (.inr (.inr (.inl ⟨.opF, ⟨false, .ret, .one⟩, rfl⟩))))))
  | ldzr => exact .inr (.inr (.inr (.inr (.inr (.inr (.inr ⟨.ldz, ⟨false, .ret, .one⟩, rfl, rfl⟩))))))
  | stzr => exact .inr (.inr (.inr (.inr (.inr (.inr (.inr ⟨.stz, ⟨false, .ret, .one⟩, rfl, rfl⟩))))))
  | ldrr => exact .inr (.inr (.inr (.inr (.inr (.inr (.inr ⟨.ldr, ⟨false, .ret, .one⟩, rfl, rfl⟩))))))
  | strr => exact .inr (.inr (.inr (.inr (.inr (.inr (.inr ⟨.str, ⟨false, .ret, .one⟩, rfl, rfl⟩))))))
  | ldar => exact .inr (.inr (.inr (.inr (.inr (.inr (.inr ⟨.lda, ⟨false, .ret, .one⟩, rfl, rfl⟩))))))
  | star => exact .inr (.inr (.inr (.inr (.inr (.inr (.inr ⟨.sta, ⟨false, .ret, .one⟩, rfl, rfl⟩))))))
  | picr => exact .inr (.inr (.inr (.inr (.inr (.inr (.inr ⟨.pic, ⟨false, .ret, .one⟩, rfl, rfl⟩))))))
  | putr => exact .inr (.inr (.inr (.inr (.inr (.inr (.inr ⟨.put, ⟨false, .ret, .one⟩, rfl, rfl⟩))))))
  | adcr => exact .inr (.inr (.inr (.inr (.inr (.inr (.inr ⟨.adc, ⟨false, .ret, .one⟩, rfl, rfl⟩))))))
  | sbcr => exact .inr (.inr (.inr (.inr (.inr (.inr (.inr ⟨.sbc, ⟨false, .ret, .one⟩, rfl, rfl⟩))))))
  | mulr => exact .inr (.inr (.inr (.inr (.inr (.inr (.inr ⟨.mul, ⟨false, .ret, .one⟩, rfl, rfl⟩))))))
  | dvmr => exact .inr (.inr (.inr (.inr (.inr (.inr (.inr ⟨.dvm, ⟨false, .ret, .one⟩, rfl, rfl⟩))))))
  | andr => exact .inr (.inr (.inr (.inr (.inr (.inr (.inr ⟨.and, ⟨false, .ret, .one⟩, rfl, rfl⟩))))))
  | iorr => exact .inr (.inr (.inr (.inr (.inr (.inr (.inr ⟨.ior, ⟨false, .ret, .one⟩, rfl, rfl⟩))))))
  | xorr => exact .inr (.inr (.inr (.inr (.inr (.inr (.inr ⟨.xor, ⟨false, .ret, .one⟩, rfl, rfl⟩))))))
  | sftr => exact .inr (.inr (.inr (.inr (.inr (.inr (.inr ⟨.sft, ⟨false, .ret, .one⟩, rfl, rfl⟩))))))
  | ext => exact .inr (.inr (.inr (.inr (.inl rfl))))
  | rsv61 => exact .inr (.inr (.inr (.inr (.inr (.inr (.inl ⟨.op1, ⟨false, .ret, .two⟩, rfl⟩))))))
  | rsv62 => exact .inr (.inr (.inr (.inr (.inr (.inr (.inl ⟨.op2, ⟨false, .ret, .two⟩, rfl⟩))))))
  | pop2r => exact .inr (.inr (.inr (.inr (.inr (.inr (.inr ⟨.pop, ⟨false, .ret, .two⟩, rfl, rfl⟩))))))
  | swp2r => exact .inr (.inr (.inr (.inr (.inr (.inr (.inr ⟨.swp, ⟨false, .ret, .two⟩, rfl, rfl⟩))))))
  | rot2r => exact .inr (.inr (.inr (.inr (.inr (.inr (.inr ⟨.rot, ⟨false, .ret, .two⟩, rfl, rfl⟩))))))
  | dup2r => exact .inr (.inr (.inr (.inr (.inr (.inr (.inr ⟨.dup, ⟨false, .ret, .two⟩, rfl, rfl⟩))))))
  | ovr2r => exact .inr (.inr (.inr (.inr (.inr (.inr (.inr ⟨.ovr, ⟨false, .ret, .two⟩, rfl, rfl⟩))))))
  | equ2r => exact .inr (.inr (.inr (.inr (.inr (.inr (.inr ⟨.equ, ⟨false, .ret, .two⟩, rfl, rfl⟩))))))
  | gth2r => exact .inr (.inr (.inr (.inr (.inr (.inr (.inr ⟨.gth, ⟨false, .ret, .two⟩, rfl, rfl⟩))))))
  | jmp2r => exact .inr (.inr (.inr (.inr (.inr (.inr (.inr ⟨.jmp, ⟨false, .ret, .two⟩, rfl, rfl⟩))))))
  | jcn2r => exact .inr (.inr (.inr (.inr (.inr (.inr (.inr ⟨.jcn, ⟨false, .ret, .two⟩, rfl, rfl⟩))))))
  | jsr2r => exact .inr (.inr (.inr (.inr (.inr (.inr (.inr ⟨.jsr, ⟨false, .ret, .two⟩, rfl, rfl⟩))))))
  | sth2r => exact .inr (.inr (.inr (.inr (.inr (.inr (.inr ⟨.sth, ⟨false, .ret, .two⟩, rfl, rfl⟩))))))
  | rsv6E => exact .inr (.inr (.inr (.inr (.inr (.inr (.inl ⟨.opE, ⟨false, .ret, .two⟩, rfl⟩))))))
  | rsv6F => exact .inr (.inr (.inr (.inr (.inr (.inr (.inl ⟨.opF, ⟨false, .ret, .two⟩, rfl⟩))))))
  | ldz2r => exact .inr (.inr (.inr (.inr (.inr (.inr (.inr ⟨.ldz, ⟨false, .ret, .two⟩, rfl, rfl⟩))))))
  | stz2r => exact .inr (.inr (.inr (.inr (.inr (.inr (.inr ⟨.stz, ⟨false, .ret, .two⟩, rfl, rfl⟩))))))
  | ldr2r => exact .inr (.inr (.inr (.inr (.inr (.inr (.inr ⟨.ldr, ⟨false, .ret, .two⟩, rfl, rfl⟩))))))
  | str2r => exact .inr (.inr (.inr (.inr (.inr (.inr (.inr ⟨.str, ⟨false, .ret, .two⟩, rfl, rfl⟩))))))
  | lda2r => exact .inr (.inr (.inr (.inr (.inr (.inr (.inr ⟨.lda, ⟨false, .ret, .two⟩, rfl, rfl⟩))))))
  | sta2r => exact .inr (.inr (.inr (.inr (.inr (.inr (.inr ⟨.sta, ⟨false, .ret, .two⟩, rfl, rfl⟩))))))
  | pic2r => exact .inr (.inr (.inr (.inr (.inr (.inr (.inr ⟨.pic, ⟨false, .ret, .two⟩, rfl, rfl⟩))))))
  | put2r => exact .inr (.inr (.inr (.inr (.inr (.inr (.inr ⟨.put, ⟨false, .ret, .two⟩, rfl, rfl⟩))))))
  | adc2r => exact .inr (.inr (.inr (.inr (.inr (.inr (.inr ⟨.adc, ⟨false, .ret, .two⟩, rfl, rfl⟩))))))
  | sbc2r => exact .inr (.inr (.inr (.inr (.inr (.inr (.inr ⟨.sbc, ⟨false, .ret, .two⟩, rfl, rfl⟩))))))
  | mul2r => exact .inr (.inr (.inr (.inr (.inr (.inr (.inr ⟨.mul, ⟨false, .ret, .two⟩, rfl, rfl⟩))))))
  | dvm2r => exact .inr (.inr (.inr (.inr (.inr (.inr (.inr ⟨.dvm, ⟨false, .ret, .two⟩, rfl, rfl⟩))))))
  | and2r => exact .inr (.inr (.inr (.inr (.inr (.inr (.inr ⟨.and, ⟨false, .ret, .two⟩, rfl, rfl⟩))))))
  | ior2r => exact .inr (.inr (.inr (.inr (.inr (.inr (.inr ⟨.ior, ⟨false, .ret, .two⟩, rfl, rfl⟩))))))
  | xor2r => exact .inr (.inr (.inr (.inr (.inr (.inr (.inr ⟨.xor, ⟨false, .ret, .two⟩, rfl, rfl⟩))))))
  | sft2r => exact .inr (.inr (.inr (.inr (.inr (.inr (.inr ⟨.sft, ⟨false, .ret, .two⟩, rfl, rfl⟩))))))
  | lit v => exact .inl ⟨.working, .one, v, rfl⟩
  | rsv81 => exact .inr (.inr (.inr (.inr (.inr (.inr (.inl ⟨.op1, ⟨true, .working, .one⟩, rfl⟩))))))
  | rsv82 => exact .inr (.inr (.inr (.inr (.inr (.inr (.inl ⟨.op2, ⟨true, .working, .one⟩, rfl⟩))))))
  | rti => exact .inr (.inr (.inr (.inr (.inr (.inl rfl)))))
  | swpk => exact .inr (.inr (.inr (.inr (.inr (.inr (.inr ⟨.swp, ⟨true, .working, .one⟩, rfl, rfl⟩))))))
  | rotk => exact .inr (.inr (.inr (.inr (.inr (.inr (.inr ⟨.rot, ⟨true, .working, .one⟩, rfl, rfl⟩))))))
  | dupk => exact .inr (.inr (.inr (.inr (.inr (.inr (.inr ⟨.dup, ⟨true, .working, .one⟩, rfl, rfl⟩))))))
  | ovrk => exact .inr (.inr (.inr (.inr (.inr (.inr (.inr ⟨.ovr, ⟨true, .working, .one⟩, rfl, rfl⟩))))))
  | equk => exact .inr (.inr (.inr (.inr (.inr (.inr (.inr ⟨.equ, ⟨true, .working, .one⟩, rfl, rfl⟩))))))
  | gthk => exact .inr (.inr (.inr (.inr (.inr (.inr (.inr ⟨.gth, ⟨true, .working, .one⟩, rfl, rfl⟩))))))
  | jmpk => exact .inr (.inr (.inr (.inr (.inr (.inr (.inr ⟨.jmp, ⟨true, .working, .one⟩, rfl, rfl⟩))))))
  | jcnk => exact .inr (.inr (.inr (.inr (.inr (.inr (.inr ⟨.jcn, ⟨true, .working, .one⟩, rfl, rfl⟩))))))
  | jsrk => exact .inr (.inr (.inr (.inr (.inr (.inr (.inr ⟨.jsr, ⟨true, .working, .one⟩, rfl, rfl⟩))))))
  | sthk => exact .inr (.inr (.inr (.inr (.inr (.inr (.inr ⟨.sth, ⟨true, .working, .one⟩, rfl, rfl⟩))))))
  | rsv8E => exact .inr (.inr (.inr (.inr (.inr (.inr (.inl ⟨.opE, ⟨true, .working, .one⟩, rfl⟩))))))
  | rsv8F => exact .inr (.inr (.inr (.inr (.inr (.inr (.inl ⟨.opF, ⟨true, .working, .one⟩, rfl⟩))))))
  | ldzk => exact .inr (.inr (.inr (.inr (.inr (.inr (.inr ⟨.ldz, ⟨true, .working, .one⟩, rfl, rfl⟩))))))
  | stzk => exact .inr (.inr (.inr (.inr (.inr (.inr (.inr ⟨.stz, ⟨true, .working, .one⟩, rfl, rfl⟩))))))
  | ldrk => exact .inr (.inr (.inr (.inr (.inr (.inr (.inr ⟨.ldr, ⟨true, .working, .one⟩, rfl, rfl⟩))))))
  | strk => exact .inr (.inr (.inr (.inr (.inr (.inr (.inr ⟨.str, ⟨true, .working, .one⟩, rfl, rfl⟩))))))
  | ldak => exact .inr (.inr (.inr (.inr (.inr (.inr (.inr ⟨.lda, ⟨true, .working, .one⟩, rfl, rfl⟩))))))
  | stak => exact .inr (.inr (.inr (.inr (.inr (.inr (.inr ⟨.sta, ⟨true, .working, .one⟩, rfl, rfl⟩))))))
  | pick => exact .inr (.inr (.inr (.inr (.inr (.inr (.inr ⟨.pic, ⟨true, .working, .one⟩, rfl, rfl⟩))))))
  | putk => exact .inr (.inr (.inr (.inr (.inr (.inr (.inr ⟨.put, ⟨true, .working, .one⟩, rfl, rfl⟩))))))
  | adck => exact .inr (.inr (.inr (.inr (.inr (.inr (.inr ⟨.adc, ⟨true, .working, .one⟩, rfl, rfl⟩))))))
  | sbck => exact .inr (.inr (.inr (.inr (.inr (.inr (.inr ⟨.sbc, ⟨true, .working, .one⟩, rfl, rfl⟩))))))
  | mulk => exact .inr (.inr (.inr (.inr (.inr (.inr (.inr ⟨.mul, ⟨true, .working, .one⟩, rfl, rfl⟩))))))
  | dvmk => exact .inr (.inr (.inr (.inr (.inr (.inr (.inr ⟨.dvm, ⟨true, .working, .one⟩, rfl, rfl⟩))))))
  | andk => exact .inr (.inr (.inr (.inr (.inr (.inr (.inr ⟨.and, ⟨true, .working, .one⟩, rfl, rfl⟩))))))
  | iork => exact .inr (.inr (.inr (.inr (.inr (.inr (.inr ⟨.ior, ⟨true, .working, .one⟩, rfl, rfl⟩))))))
  | xork => exact .inr (.inr (.inr (.inr (.inr (.inr (.inr ⟨.xor, ⟨true, .working, .one⟩, rfl, rfl⟩))))))
  | sftk => exact .inr (.inr (.inr (.inr (.inr (.inr (.inr ⟨.sft, ⟨true, .working, .one⟩, rfl, rfl⟩))))))
  | lit2 v => exact .inl ⟨.working, .two, v, rfl⟩
  | rsvA1 => exact .inr (.inr (.inr (.inr (.inr (.inr (.inl ⟨.op1, ⟨true, .working, .two⟩, rfl⟩))))))
  | rsvA2 => exact .inr (.inr (.inr (.inr (.inr (.inr (.inl ⟨.op2, ⟨true, .working, .two⟩, rfl⟩))))))
  | pop2k => exact .inr (.inr (.inr (.inr (.inr (.inr (.inr ⟨.pop, ⟨true, .working, .two⟩, rfl, rfl⟩))))))
  | swp2k => exact .inr (.inr (.inr (.inr (.inr (.inr (.inr ⟨.swp, ⟨true, .working, .two⟩, rfl, rfl⟩))))))
  | rot2k => exact .inr (.inr (.inr (.inr (.inr (.inr (.inr ⟨.rot, ⟨true, .working, .two⟩, rfl, rfl⟩))))))
  | dup2k => exact .inr (.inr (.inr (.inr (.inr (.inr (.inr ⟨.dup, ⟨true, .working, .two⟩, rfl, rfl⟩))))))
  | ovr2k => exact .inr (.inr (.inr (.inr (.inr (.inr (.inr ⟨.ovr, ⟨true, .working, .two⟩, rfl, rfl⟩))))))
  | equ2k => exact .inr (.inr (.inr (.inr (.inr (.inr (.inr ⟨.equ, ⟨true, .working, .two⟩, rfl, rfl⟩))))))
  | gth2k => exact .inr (.inr (.inr (.inr (.inr (.inr (.inr ⟨.gth, ⟨true, .working, .two⟩, rfl, rfl⟩))))))
  | jmp2k => exact .inr (.inr (.inr (.inr (.inr (.inr (.inr ⟨.jmp, ⟨true, .working, .two⟩, rfl, rfl⟩))))))
  | jcn2k => exact .inr (.inr (.inr (.inr (.inr (.inr (.inr ⟨.jcn, ⟨true, .working, .two⟩, rfl, rfl⟩))))))
  | jsr2k => exact .inr (.inr (.inr (.inr (.inr (.inr (.inr ⟨.jsr, ⟨true, .working, .two⟩, rfl, rfl⟩))))))
  | sth2k => exact .inr (.inr (.inr (.inr (.inr (.inr (.inr ⟨.sth, ⟨true, .working, .two⟩, rfl, rfl⟩))))))
  | rsvAE => exact .inr (.inr (.inr (.inr (.inr (.inr (.inl ⟨.opE, ⟨true, .working, .two⟩, rfl⟩))))))
  | rsvAF => exact .inr (.inr (.inr (.inr (.inr (.inr (.inl ⟨.opF, ⟨true, .working, .two⟩, rfl⟩))))))
  | ldz2k => exact .inr (.inr (.inr (.inr (.inr (.inr (.inr ⟨.ldz, ⟨true, .working, .two⟩, rfl, rfl⟩))))))
  | stz2k => exact .inr (.inr (.inr (.inr (.inr (.inr (.inr ⟨.stz, ⟨true, .working, .two⟩, rfl, rfl⟩))))))
  | ldr2k => exact .inr (.inr (.inr (.inr (.inr (.inr (.inr ⟨.ldr, ⟨true, .working, .two⟩, rfl, rfl⟩))))))
  | str2k => exact .inr (.inr (.inr (.inr (.inr (.inr (.inr ⟨.str, ⟨true, .working, .two⟩, rfl, rfl⟩))))))
  | lda2k => exact .inr (.inr (.inr (.inr (.inr (.inr (.inr ⟨.lda, ⟨true, .working, .two⟩, rfl, rfl⟩))))))
  | sta2k => exact .inr (.inr (.inr (.inr (.inr (.inr (.inr ⟨.sta, ⟨true, .working, .two⟩, rfl, rfl⟩))))))
  | pic2k => exact .inr (.inr (.inr (.inr (.inr (.inr (.inr ⟨.pic, ⟨true, .working, .two⟩, rfl, rfl⟩))))))
  | put2k => exact .inr (.inr (.inr (.inr (.inr (.inr (.inr ⟨.put, ⟨true, .working, .two⟩, rfl, rfl⟩))))))
  | adc2k => exact .inr (.inr (.inr (.inr (.inr (.inr (.inr ⟨.adc, ⟨true, .working, .two⟩, rfl, rfl⟩))))))
  | sbc2k => exact .inr (.inr (.inr (.inr (.inr (.inr (.inr ⟨.sbc, ⟨true, .working, .two⟩, rfl, rfl⟩))))))
  | mul2k => exact .inr (.inr (.inr (.inr (.inr (.inr (.inr ⟨.mul, ⟨true, .working, .two⟩, rfl, rfl⟩))))))
  | dvm2k => exact .inr (.inr (.inr (.inr (.inr (.inr (.inr ⟨.dvm, ⟨true, .working, .two⟩, rfl, rfl⟩))))))
  | and2k => exact .inr (.inr (.inr (.inr (.inr (.inr (.inr ⟨.and, ⟨true, .working, .two⟩, rfl, rfl⟩))))))
  | ior2k => exact .inr (.inr (.inr (.inr (.inr (.inr (.inr ⟨.ior, ⟨true, .working, .two⟩, rfl, rfl⟩))))))
  | xor2k => exact .inr (.inr (.inr (.inr (.inr (.inr (.inr ⟨.xor, ⟨true, .working, .two⟩, rfl, rfl⟩))))))
  | sft2k => exact .inr (.inr (.inr (.inr (.inr (.inr (.inr ⟨.sft, ⟨true, .working, .two⟩, rfl, rfl⟩))))))
  | litr v => exact .inl ⟨.ret, .one, v, rfl⟩
  | rsvC1 => exact .inr (.inr (.inr (.inr (.inr (.inr (.inl ⟨.op1, ⟨true, .ret, .one⟩, rfl⟩))))))
  | rsvC2 => exact .inr (.inr (.inr (.inr (.inr (.inr (.inl ⟨.op2, ⟨true, .ret, .one⟩, rfl⟩))))))
  | popkr => exact .inr (.inr (.inr (.inr (.inr (.inr (.inr ⟨.pop, ⟨true, .ret, .one⟩, rfl, rfl⟩))))))
  | swpkr => exact .inr (.inr (.inr (.inr (.inr (.inr (.inr ⟨.swp, ⟨true, .ret, .one⟩, rfl, rfl⟩))))))
  | rotkr => exact .inr (.inr (.inr (.inr (.inr (.inr (.inr ⟨.rot, ⟨true, .ret, .one⟩, rfl, rfl⟩))))))
  | dupkr => exact .inr (.inr (.inr (.inr (.inr (.inr (.inr ⟨.dup, ⟨true, .ret, .one⟩, rfl, rfl⟩))))))
  | ovrkr => exact .inr (.inr (.inr (.inr (.inr (.inr (.inr ⟨.ovr, ⟨true, .ret, .one⟩, rfl, rfl⟩))))))
  | equkr => exact .inr (.inr (.inr (.inr (.inr (.inr (.inr ⟨.equ, ⟨true, .ret, .one⟩, rfl, rfl⟩))))))
  | gthkr => exact .inr (.inr (.inr (.inr (.inr (.inr (.inr ⟨.gth, ⟨true, .ret, .one⟩, rfl, rfl⟩))))))
  | jmpkr => exact .inr (.inr (.inr (.inr (.inr (.inr (.inr ⟨.jmp, ⟨true, .ret, .one⟩, rfl, rfl⟩))))))
  | jcnkr => exact .inr (.inr (.inr (.inr (.inr (.inr (.inr ⟨.jcn, ⟨true, .ret, .one⟩, rfl, rfl⟩))))))
  | jsrkr => exact .inr (.inr (.inr (.inr (.inr (.inr (.inr ⟨.jsr, ⟨true, .ret, .one⟩, rfl, rfl⟩))))))
  | sthkr => exact .inr (.inr (.inr (.inr (.inr (.inr (.inr ⟨.sth, ⟨true, .ret, .one⟩, rfl, rfl⟩))))))
  | rsvCE => exact .inr (.inr (.inr (.inr (.inr (.inr (.inl ⟨.opE, ⟨true, .ret, .one⟩, rfl⟩))))))
  | rsvCF => exact .inr (.inr (.inr (.inr (.inr (.inr (.inl ⟨.opF, ⟨true, .ret, .one⟩, rfl⟩))))))
  | ldzkr => exact .inr (.inr (.inr (.inr (.inr (.inr (.inr ⟨.ldz, ⟨true, .ret, .one⟩, rfl, rfl⟩))))))
  | stzkr => exact .inr (.inr (.inr (.inr (.inr (.inr (.inr ⟨.stz, ⟨true, .ret, .one⟩, rfl, rfl⟩))))))
  | ldrkr => exact .inr (.inr (.inr (.inr (.inr (.inr (.inr ⟨.ldr, ⟨true, .ret, .one⟩, rfl, rfl⟩))))))
  | strkr => exact .inr (.inr (.inr (.inr (.inr (.inr (.inr ⟨.str, ⟨true, .ret, .one⟩, rfl, rfl⟩))))))
  | ldakr => exact .inr (.inr (.inr (.inr (.inr (.inr (.inr ⟨.lda, ⟨true, .ret, .one⟩, rfl, rfl⟩))))))
  | stakr => exact .inr (.inr (.inr (.inr (.inr (.inr (.inr ⟨.sta, ⟨true, .ret, .one⟩, rfl, rfl⟩))))))
  | pickr => exact .inr (.inr (.inr (.inr (.inr (.inr (.inr ⟨.pic, ⟨true, .ret, .one⟩, rfl, rfl⟩))))))
  | putkr => exact .inr (.inr (.inr (.inr (.inr (.inr (.inr ⟨.put, ⟨true, .ret, .one⟩, rfl, rfl⟩))))))
  | adckr => exact .inr (.inr (.inr (.inr (.inr (.inr (.inr ⟨.adc, ⟨true, .ret, .one⟩, rfl, rfl⟩))))))
  | sbckr => exact .inr (.inr (.inr (.inr (.inr (.inr (.inr ⟨.sbc, ⟨true, .ret, .one⟩, rfl, rfl⟩))))))
  | mulkr => exact .inr (.inr (.inr (.inr (.inr (.inr (.inr ⟨.mul, ⟨true, .ret, .one⟩, rfl, rfl⟩))))))
  | dvmkr => exact .inr (.inr (.inr (.inr (.inr (.inr (.inr ⟨.dvm, ⟨true, .ret, .one⟩, rfl, rfl⟩))))))
  | andkr => exact .inr (.inr (.inr (.inr (.inr (.inr (.inr ⟨.and, ⟨true, .ret, .one⟩, rfl, rfl⟩))))))
  | iorkr => exact .inr (.inr (.inr (.inr (.inr (.inr (.inr ⟨.ior, ⟨true, .ret, .one⟩, rfl, rfl⟩))))))
  | xorkr => exact .inr (.inr (.inr (.inr (.inr (.inr (.inr ⟨.xor, ⟨true, .ret, .one⟩, rfl, rfl⟩))))))
  | sftkr => exact .inr (.inr (.inr (.inr (.inr (.inr (.inr ⟨.sft, ⟨true, .ret, .one⟩, rfl, rfl⟩))))))
  | lit2r v => exact .inl ⟨.ret, .two, v, rfl⟩
  | rsvE1 => exact .inr (.inr (.inr (.inr (.inr (.inr (.inl ⟨.op1, ⟨true, .ret, .two⟩, rfl⟩))))))
  | rsvE2 => exact .inr (.inr (.inr (.inr (.inr (.inr (.inl ⟨.op2, ⟨true, .ret, .two⟩, rfl⟩))))))
  | pop2kr => exact .inr (.inr (.inr (.inr (.inr (.inr (.inr ⟨.pop, ⟨true, .ret, .two⟩, rfl, rfl⟩))))))
  | swp2kr => exact .inr (.inr (.inr (.inr (.inr (.inr (.inr ⟨.swp, ⟨true, .ret, .two⟩, rfl, rfl⟩))))))
  | rot2kr => exact .inr (.inr (.inr (.inr (.inr (.inr (.inr ⟨.rot, ⟨true, .ret, .two⟩, rfl, rfl⟩))))))
  | dup2kr => exact .inr (.inr (.inr (.inr (.inr (.inr (.inr ⟨.dup, ⟨true, .ret, .two⟩, rfl, rfl⟩))))))
  | ovr2kr => exact .inr (.inr (.inr (.inr (.inr (.inr (.inr ⟨.ovr, ⟨true, .ret, .two⟩, rfl, rfl⟩))))))
  | equ2kr => exact .inr (.inr (.inr (.inr (.inr (.inr (.inr ⟨.equ, ⟨true, .ret, .two⟩, rfl, rfl⟩))))))
  | gth2kr => exact .inr (.inr (.inr (.inr (.inr (.inr (.inr ⟨.gth, ⟨true, .ret, .two⟩, rfl, rfl⟩))))))
  | jmp2kr => exact .inr (.inr (.inr (.inr (.inr (.inr (.inr ⟨.jmp, ⟨true, .ret, .two⟩, rfl, rfl⟩))))))
  | jcn2kr => exact .inr (.inr (.inr (.inr (.inr (.inr (.inr ⟨.jcn, ⟨true, .ret, .two⟩, rfl, rfl⟩))))))
  | jsr2kr => exact .inr (.inr (.inr (.inr (.inr (.inr (.inr ⟨.jsr, ⟨true, .ret, .two⟩, rfl, rfl⟩))))))
  | sth2kr => exact .inr (.inr (.inr (.inr (.inr (.inr (.inr ⟨.sth, ⟨true, .ret, .two⟩, rfl, rfl⟩))))))
  | rsvEE => exact .inr (.inr (.inr (.inr (.inr (.inr (.inl ⟨.opE, ⟨true, .ret, .two⟩, rfl⟩))))))
  | rsvEF => exact .inr (.inr (.inr (.inr (.inr (.inr (.inl ⟨.opF, ⟨true, .ret, .two⟩, rfl⟩))))))
  | ldz2kr => exact .inr (.inr (.inr (.inr (.inr (.inr (.inr ⟨.ldz, ⟨true, .ret, .two⟩, rfl, rfl⟩))))))
  | stz2kr => exact .inr (.inr (.inr (.inr (.inr (.inr (.inr ⟨.stz, ⟨true, .ret, .two⟩, rfl, rfl⟩))))))
  | ldr2kr => exact .inr (.inr (.inr (.inr (.inr (.inr (.inr ⟨.ldr, ⟨true, .ret, .two⟩, rfl, rfl⟩))))))
  | str2kr => exact .inr (.inr (.inr (.inr (.inr (.inr (.inr ⟨.str, ⟨true, .ret, .two⟩, rfl, rfl⟩))))))
  | lda2kr => exact .inr (.inr (.inr (.inr (.inr (.inr (.inr ⟨.lda, ⟨true, .ret, .two⟩, rfl, rfl⟩))))))
  | sta2kr => exact .inr (.inr (.inr (.inr (.inr (.inr (.inr ⟨.sta, ⟨true, .ret, .two⟩, rfl, rfl⟩))))))
  | pic2kr => exact .inr (.inr (.inr (.inr (.inr (.inr (.inr ⟨.pic, ⟨true, .ret, .two⟩, rfl, rfl⟩))))))
  | put2kr => exact .inr (.inr (.inr (.inr (.inr (.inr (.inr ⟨.put, ⟨true, .ret, .two⟩, rfl, rfl⟩))))))
  | adc2kr => exact .inr (.inr (.inr (.inr (.inr (.inr (.inr ⟨.adc, ⟨true, .ret, .two⟩, rfl, rfl⟩))))))
  | sbc2kr => exact .inr (.inr (.inr (.inr (.inr (.inr (.inr ⟨.sbc, ⟨true, .ret, .two⟩, rfl, rfl⟩))))))
  | mul2kr => exact .inr (.inr (.inr (.inr (.inr (.inr (.inr ⟨.mul, ⟨true, .ret, .two⟩, rfl, rfl⟩))))))
  | dvm2kr => exact .inr (.inr (.inr (.inr (.inr (.inr (.inr ⟨.dvm, ⟨true, .ret, .two⟩, rfl, rfl⟩))))))
  | and2kr => exact .inr (.inr (.inr (.inr (.inr (.inr (.inr ⟨.and, ⟨true, .ret, .two⟩, rfl, rfl⟩))))))
  | ior2kr => exact .inr (.inr (.inr (.inr (.inr (.inr (.inr ⟨.ior, ⟨true, .ret, .two⟩, rfl, rfl⟩))))))
  | xor2kr => exact .inr (.inr (.inr (.inr (.inr (.inr (.inr ⟨.xor, ⟨true, .ret, .two⟩, rfl, rfl⟩))))))
  | sft2kr => exact .inr (.inr (.inr (.inr (.inr (.inr (.inr ⟨.sft, ⟨true, .ret, .two⟩, rfl, rfl⟩))))))

end Sys2Proof.Machine
end

