-- ==== Sys2Proof/Laws/PerInstr.lean ====
section
/-! SUPPORT. A fact of the syntax, per instruction: its encoding begins with its opcode byte, and is as long as that
byte says (30_encoding.md R90). -/

namespace Sys2Proof.Laws.EncodingIsOneInstruction

/-- The encoding of an instruction is 1 to 3 bytes, as many as its opcode byte says. -/
def Statement (i : Instr) : Prop :=
  (encode i).length = instrLength (opcodeByte i) ∧ 1 ≤ (encode i).length ∧ (encode i).length ≤ 3

theorem nop : Statement .nop := ⟨rfl, by decide, by decide⟩
theorem rsv01 : Statement .rsv01 := ⟨rfl, by decide, by decide⟩
theorem rsv02 : Statement .rsv02 := ⟨rfl, by decide, by decide⟩
theorem pop : Statement .pop := ⟨rfl, by decide, by decide⟩
theorem swp : Statement .swp := ⟨rfl, by decide, by decide⟩
theorem rot : Statement .rot := ⟨rfl, by decide, by decide⟩
theorem dup : Statement .dup := ⟨rfl, by decide, by decide⟩
theorem ovr : Statement .ovr := ⟨rfl, by decide, by decide⟩
theorem equ : Statement .equ := ⟨rfl, by decide, by decide⟩
theorem gth : Statement .gth := ⟨rfl, by decide, by decide⟩
theorem jmp : Statement .jmp := ⟨rfl, by decide, by decide⟩
theorem jcn : Statement .jcn := ⟨rfl, by decide, by decide⟩
theorem jsr : Statement .jsr := ⟨rfl, by decide, by decide⟩
theorem sth : Statement .sth := ⟨rfl, by decide, by decide⟩
theorem rsv0E : Statement .rsv0E := ⟨rfl, by decide, by decide⟩
theorem rsv0F : Statement .rsv0F := ⟨rfl, by decide, by decide⟩
theorem ldz : Statement .ldz := ⟨rfl, by decide, by decide⟩
theorem stz : Statement .stz := ⟨rfl, by decide, by decide⟩
theorem ldr : Statement .ldr := ⟨rfl, by decide, by decide⟩
theorem str : Statement .str := ⟨rfl, by decide, by decide⟩
theorem lda : Statement .lda := ⟨rfl, by decide, by decide⟩
theorem sta : Statement .sta := ⟨rfl, by decide, by decide⟩
theorem pic : Statement .pic := ⟨rfl, by decide, by decide⟩
theorem put : Statement .put := ⟨rfl, by decide, by decide⟩
theorem adc : Statement .adc := ⟨rfl, by decide, by decide⟩
theorem sbc : Statement .sbc := ⟨rfl, by decide, by decide⟩
theorem mul : Statement .mul := ⟨rfl, by decide, by decide⟩
theorem dvm : Statement .dvm := ⟨rfl, by decide, by decide⟩
theorem and : Statement .and := ⟨rfl, by decide, by decide⟩
theorem ior : Statement .ior := ⟨rfl, by decide, by decide⟩
theorem xor : Statement .xor := ⟨rfl, by decide, by decide⟩
theorem sft : Statement .sft := ⟨rfl, by decide, by decide⟩
theorem sec : Statement .sec := ⟨rfl, by decide, by decide⟩
theorem rsv21 : Statement .rsv21 := ⟨rfl, by decide, by decide⟩
theorem rsv22 : Statement .rsv22 := ⟨rfl, by decide, by decide⟩
theorem pop2 : Statement .pop2 := ⟨rfl, by decide, by decide⟩
theorem swp2 : Statement .swp2 := ⟨rfl, by decide, by decide⟩
theorem rot2 : Statement .rot2 := ⟨rfl, by decide, by decide⟩
theorem dup2 : Statement .dup2 := ⟨rfl, by decide, by decide⟩
theorem ovr2 : Statement .ovr2 := ⟨rfl, by decide, by decide⟩
theorem equ2 : Statement .equ2 := ⟨rfl, by decide, by decide⟩
theorem gth2 : Statement .gth2 := ⟨rfl, by decide, by decide⟩
theorem jmp2 : Statement .jmp2 := ⟨rfl, by decide, by decide⟩
theorem jcn2 : Statement .jcn2 := ⟨rfl, by decide, by decide⟩
theorem jsr2 : Statement .jsr2 := ⟨rfl, by decide, by decide⟩
theorem sth2 : Statement .sth2 := ⟨rfl, by decide, by decide⟩
theorem rsv2E : Statement .rsv2E := ⟨rfl, by decide, by decide⟩
theorem rsv2F : Statement .rsv2F := ⟨rfl, by decide, by decide⟩
theorem ldz2 : Statement .ldz2 := ⟨rfl, by decide, by decide⟩
theorem stz2 : Statement .stz2 := ⟨rfl, by decide, by decide⟩
theorem ldr2 : Statement .ldr2 := ⟨rfl, by decide, by decide⟩
theorem str2 : Statement .str2 := ⟨rfl, by decide, by decide⟩
theorem lda2 : Statement .lda2 := ⟨rfl, by decide, by decide⟩
theorem sta2 : Statement .sta2 := ⟨rfl, by decide, by decide⟩
theorem pic2 : Statement .pic2 := ⟨rfl, by decide, by decide⟩
theorem put2 : Statement .put2 := ⟨rfl, by decide, by decide⟩
theorem adc2 : Statement .adc2 := ⟨rfl, by decide, by decide⟩
theorem sbc2 : Statement .sbc2 := ⟨rfl, by decide, by decide⟩
theorem mul2 : Statement .mul2 := ⟨rfl, by decide, by decide⟩
theorem dvm2 : Statement .dvm2 := ⟨rfl, by decide, by decide⟩
theorem and2 : Statement .and2 := ⟨rfl, by decide, by decide⟩
theorem ior2 : Statement .ior2 := ⟨rfl, by decide, by decide⟩
theorem xor2 : Statement .xor2 := ⟨rfl, by decide, by decide⟩
theorem sft2 : Statement .sft2 := ⟨rfl, by decide, by decide⟩
theorem clc : Statement .clc := ⟨rfl, by decide, by decide⟩
theorem rsv41 : Statement .rsv41 := ⟨rfl, by decide, by decide⟩
theorem rsv42 : Statement .rsv42 := ⟨rfl, by decide, by decide⟩
theorem popr : Statement .popr := ⟨rfl, by decide, by decide⟩
theorem swpr : Statement .swpr := ⟨rfl, by decide, by decide⟩
theorem rotr : Statement .rotr := ⟨rfl, by decide, by decide⟩
theorem dupr : Statement .dupr := ⟨rfl, by decide, by decide⟩
theorem ovrr : Statement .ovrr := ⟨rfl, by decide, by decide⟩
theorem equr : Statement .equr := ⟨rfl, by decide, by decide⟩
theorem gthr : Statement .gthr := ⟨rfl, by decide, by decide⟩
theorem jmpr : Statement .jmpr := ⟨rfl, by decide, by decide⟩
theorem jcnr : Statement .jcnr := ⟨rfl, by decide, by decide⟩
theorem jsrr : Statement .jsrr := ⟨rfl, by decide, by decide⟩
theorem sthr : Statement .sthr := ⟨rfl, by decide, by decide⟩
theorem rsv4E : Statement .rsv4E := ⟨rfl, by decide, by decide⟩
theorem rsv4F : Statement .rsv4F := ⟨rfl, by decide, by decide⟩
theorem ldzr : Statement .ldzr := ⟨rfl, by decide, by decide⟩
theorem stzr : Statement .stzr := ⟨rfl, by decide, by decide⟩
theorem ldrr : Statement .ldrr := ⟨rfl, by decide, by decide⟩
theorem strr : Statement .strr := ⟨rfl, by decide, by decide⟩
theorem ldar : Statement .ldar := ⟨rfl, by decide, by decide⟩
theorem star : Statement .star := ⟨rfl, by decide, by decide⟩
theorem picr : Statement .picr := ⟨rfl, by decide, by decide⟩
theorem putr : Statement .putr := ⟨rfl, by decide, by decide⟩
theorem adcr : Statement .adcr := ⟨rfl, by decide, by decide⟩
theorem sbcr : Statement .sbcr := ⟨rfl, by decide, by decide⟩
theorem mulr : Statement .mulr := ⟨rfl, by decide, by decide⟩
theorem dvmr : Statement .dvmr := ⟨rfl, by decide, by decide⟩
theorem andr : Statement .andr := ⟨rfl, by decide, by decide⟩
theorem iorr : Statement .iorr := ⟨rfl, by decide, by decide⟩
theorem xorr : Statement .xorr := ⟨rfl, by decide, by decide⟩
theorem sftr : Statement .sftr := ⟨rfl, by decide, by decide⟩
theorem ext : Statement .ext := ⟨rfl, by decide, by decide⟩
theorem rsv61 : Statement .rsv61 := ⟨rfl, by decide, by decide⟩
theorem rsv62 : Statement .rsv62 := ⟨rfl, by decide, by decide⟩
theorem pop2r : Statement .pop2r := ⟨rfl, by decide, by decide⟩
theorem swp2r : Statement .swp2r := ⟨rfl, by decide, by decide⟩
theorem rot2r : Statement .rot2r := ⟨rfl, by decide, by decide⟩
theorem dup2r : Statement .dup2r := ⟨rfl, by decide, by decide⟩
theorem ovr2r : Statement .ovr2r := ⟨rfl, by decide, by decide⟩
theorem equ2r : Statement .equ2r := ⟨rfl, by decide, by decide⟩
theorem gth2r : Statement .gth2r := ⟨rfl, by decide, by decide⟩
theorem jmp2r : Statement .jmp2r := ⟨rfl, by decide, by decide⟩
theorem jcn2r : Statement .jcn2r := ⟨rfl, by decide, by decide⟩
theorem jsr2r : Statement .jsr2r := ⟨rfl, by decide, by decide⟩
theorem sth2r : Statement .sth2r := ⟨rfl, by decide, by decide⟩
theorem rsv6E : Statement .rsv6E := ⟨rfl, by decide, by decide⟩
theorem rsv6F : Statement .rsv6F := ⟨rfl, by decide, by decide⟩
theorem ldz2r : Statement .ldz2r := ⟨rfl, by decide, by decide⟩
theorem stz2r : Statement .stz2r := ⟨rfl, by decide, by decide⟩
theorem ldr2r : Statement .ldr2r := ⟨rfl, by decide, by decide⟩
theorem str2r : Statement .str2r := ⟨rfl, by decide, by decide⟩
theorem lda2r : Statement .lda2r := ⟨rfl, by decide, by decide⟩
theorem sta2r : Statement .sta2r := ⟨rfl, by decide, by decide⟩
theorem pic2r : Statement .pic2r := ⟨rfl, by decide, by decide⟩
theorem put2r : Statement .put2r := ⟨rfl, by decide, by decide⟩
theorem adc2r : Statement .adc2r := ⟨rfl, by decide, by decide⟩
theorem sbc2r : Statement .sbc2r := ⟨rfl, by decide, by decide⟩
theorem mul2r : Statement .mul2r := ⟨rfl, by decide, by decide⟩
theorem dvm2r : Statement .dvm2r := ⟨rfl, by decide, by decide⟩
theorem and2r : Statement .and2r := ⟨rfl, by decide, by decide⟩
theorem ior2r : Statement .ior2r := ⟨rfl, by decide, by decide⟩
theorem xor2r : Statement .xor2r := ⟨rfl, by decide, by decide⟩
theorem sft2r : Statement .sft2r := ⟨rfl, by decide, by decide⟩
theorem lit (v : Byte) : Statement (.lit v) := by
  have h : instrLength 0x80 = 2 := by decide
  exact ⟨h.symm, by simp [encode, literalBytes], by simp [encode, literalBytes]⟩

theorem rsv81 : Statement .rsv81 := ⟨rfl, by decide, by decide⟩
theorem rsv82 : Statement .rsv82 := ⟨rfl, by decide, by decide⟩
theorem rti : Statement .rti := ⟨rfl, by decide, by decide⟩
theorem swpk : Statement .swpk := ⟨rfl, by decide, by decide⟩
theorem rotk : Statement .rotk := ⟨rfl, by decide, by decide⟩
theorem dupk : Statement .dupk := ⟨rfl, by decide, by decide⟩
theorem ovrk : Statement .ovrk := ⟨rfl, by decide, by decide⟩
theorem equk : Statement .equk := ⟨rfl, by decide, by decide⟩
theorem gthk : Statement .gthk := ⟨rfl, by decide, by decide⟩
theorem jmpk : Statement .jmpk := ⟨rfl, by decide, by decide⟩
theorem jcnk : Statement .jcnk := ⟨rfl, by decide, by decide⟩
theorem jsrk : Statement .jsrk := ⟨rfl, by decide, by decide⟩
theorem sthk : Statement .sthk := ⟨rfl, by decide, by decide⟩
theorem rsv8E : Statement .rsv8E := ⟨rfl, by decide, by decide⟩
theorem rsv8F : Statement .rsv8F := ⟨rfl, by decide, by decide⟩
theorem ldzk : Statement .ldzk := ⟨rfl, by decide, by decide⟩
theorem stzk : Statement .stzk := ⟨rfl, by decide, by decide⟩
theorem ldrk : Statement .ldrk := ⟨rfl, by decide, by decide⟩
theorem strk : Statement .strk := ⟨rfl, by decide, by decide⟩
theorem ldak : Statement .ldak := ⟨rfl, by decide, by decide⟩
theorem stak : Statement .stak := ⟨rfl, by decide, by decide⟩
theorem pick : Statement .pick := ⟨rfl, by decide, by decide⟩
theorem putk : Statement .putk := ⟨rfl, by decide, by decide⟩
theorem adck : Statement .adck := ⟨rfl, by decide, by decide⟩
theorem sbck : Statement .sbck := ⟨rfl, by decide, by decide⟩
theorem mulk : Statement .mulk := ⟨rfl, by decide, by decide⟩
theorem dvmk : Statement .dvmk := ⟨rfl, by decide, by decide⟩
theorem andk : Statement .andk := ⟨rfl, by decide, by decide⟩
theorem iork : Statement .iork := ⟨rfl, by decide, by decide⟩
theorem xork : Statement .xork := ⟨rfl, by decide, by decide⟩
theorem sftk : Statement .sftk := ⟨rfl, by decide, by decide⟩
theorem lit2 (v : BitVec 16) : Statement (.lit2 v) := by
  have h : instrLength 0xA0 = 3 := by decide
  exact ⟨h.symm, by simp [encode, literalBytes], by simp [encode, literalBytes]⟩

theorem rsvA1 : Statement .rsvA1 := ⟨rfl, by decide, by decide⟩
theorem rsvA2 : Statement .rsvA2 := ⟨rfl, by decide, by decide⟩
theorem pop2k : Statement .pop2k := ⟨rfl, by decide, by decide⟩
theorem swp2k : Statement .swp2k := ⟨rfl, by decide, by decide⟩
theorem rot2k : Statement .rot2k := ⟨rfl, by decide, by decide⟩
theorem dup2k : Statement .dup2k := ⟨rfl, by decide, by decide⟩
theorem ovr2k : Statement .ovr2k := ⟨rfl, by decide, by decide⟩
theorem equ2k : Statement .equ2k := ⟨rfl, by decide, by decide⟩
theorem gth2k : Statement .gth2k := ⟨rfl, by decide, by decide⟩
theorem jmp2k : Statement .jmp2k := ⟨rfl, by decide, by decide⟩
theorem jcn2k : Statement .jcn2k := ⟨rfl, by decide, by decide⟩
theorem jsr2k : Statement .jsr2k := ⟨rfl, by decide, by decide⟩
theorem sth2k : Statement .sth2k := ⟨rfl, by decide, by decide⟩
theorem rsvAE : Statement .rsvAE := ⟨rfl, by decide, by decide⟩
theorem rsvAF : Statement .rsvAF := ⟨rfl, by decide, by decide⟩
theorem ldz2k : Statement .ldz2k := ⟨rfl, by decide, by decide⟩
theorem stz2k : Statement .stz2k := ⟨rfl, by decide, by decide⟩
theorem ldr2k : Statement .ldr2k := ⟨rfl, by decide, by decide⟩
theorem str2k : Statement .str2k := ⟨rfl, by decide, by decide⟩
theorem lda2k : Statement .lda2k := ⟨rfl, by decide, by decide⟩
theorem sta2k : Statement .sta2k := ⟨rfl, by decide, by decide⟩
theorem pic2k : Statement .pic2k := ⟨rfl, by decide, by decide⟩
theorem put2k : Statement .put2k := ⟨rfl, by decide, by decide⟩
theorem adc2k : Statement .adc2k := ⟨rfl, by decide, by decide⟩
theorem sbc2k : Statement .sbc2k := ⟨rfl, by decide, by decide⟩
theorem mul2k : Statement .mul2k := ⟨rfl, by decide, by decide⟩
theorem dvm2k : Statement .dvm2k := ⟨rfl, by decide, by decide⟩
theorem and2k : Statement .and2k := ⟨rfl, by decide, by decide⟩
theorem ior2k : Statement .ior2k := ⟨rfl, by decide, by decide⟩
theorem xor2k : Statement .xor2k := ⟨rfl, by decide, by decide⟩
theorem sft2k : Statement .sft2k := ⟨rfl, by decide, by decide⟩
theorem litr (v : Byte) : Statement (.litr v) := by
  have h : instrLength 0xC0 = 2 := by decide
  exact ⟨h.symm, by simp [encode, literalBytes], by simp [encode, literalBytes]⟩

theorem rsvC1 : Statement .rsvC1 := ⟨rfl, by decide, by decide⟩
theorem rsvC2 : Statement .rsvC2 := ⟨rfl, by decide, by decide⟩
theorem popkr : Statement .popkr := ⟨rfl, by decide, by decide⟩
theorem swpkr : Statement .swpkr := ⟨rfl, by decide, by decide⟩
theorem rotkr : Statement .rotkr := ⟨rfl, by decide, by decide⟩
theorem dupkr : Statement .dupkr := ⟨rfl, by decide, by decide⟩
theorem ovrkr : Statement .ovrkr := ⟨rfl, by decide, by decide⟩
theorem equkr : Statement .equkr := ⟨rfl, by decide, by decide⟩
theorem gthkr : Statement .gthkr := ⟨rfl, by decide, by decide⟩
theorem jmpkr : Statement .jmpkr := ⟨rfl, by decide, by decide⟩
theorem jcnkr : Statement .jcnkr := ⟨rfl, by decide, by decide⟩
theorem jsrkr : Statement .jsrkr := ⟨rfl, by decide, by decide⟩
theorem sthkr : Statement .sthkr := ⟨rfl, by decide, by decide⟩
theorem rsvCE : Statement .rsvCE := ⟨rfl, by decide, by decide⟩
theorem rsvCF : Statement .rsvCF := ⟨rfl, by decide, by decide⟩
theorem ldzkr : Statement .ldzkr := ⟨rfl, by decide, by decide⟩
theorem stzkr : Statement .stzkr := ⟨rfl, by decide, by decide⟩
theorem ldrkr : Statement .ldrkr := ⟨rfl, by decide, by decide⟩
theorem strkr : Statement .strkr := ⟨rfl, by decide, by decide⟩
theorem ldakr : Statement .ldakr := ⟨rfl, by decide, by decide⟩
theorem stakr : Statement .stakr := ⟨rfl, by decide, by decide⟩
theorem pickr : Statement .pickr := ⟨rfl, by decide, by decide⟩
theorem putkr : Statement .putkr := ⟨rfl, by decide, by decide⟩
theorem adckr : Statement .adckr := ⟨rfl, by decide, by decide⟩
theorem sbckr : Statement .sbckr := ⟨rfl, by decide, by decide⟩
theorem mulkr : Statement .mulkr := ⟨rfl, by decide, by decide⟩
theorem dvmkr : Statement .dvmkr := ⟨rfl, by decide, by decide⟩
theorem andkr : Statement .andkr := ⟨rfl, by decide, by decide⟩
theorem iorkr : Statement .iorkr := ⟨rfl, by decide, by decide⟩
theorem xorkr : Statement .xorkr := ⟨rfl, by decide, by decide⟩
theorem sftkr : Statement .sftkr := ⟨rfl, by decide, by decide⟩
theorem lit2r (v : BitVec 16) : Statement (.lit2r v) := by
  have h : instrLength 0xE0 = 3 := by decide
  exact ⟨h.symm, by simp [encode, literalBytes], by simp [encode, literalBytes]⟩

theorem rsvE1 : Statement .rsvE1 := ⟨rfl, by decide, by decide⟩
theorem rsvE2 : Statement .rsvE2 := ⟨rfl, by decide, by decide⟩
theorem pop2kr : Statement .pop2kr := ⟨rfl, by decide, by decide⟩
theorem swp2kr : Statement .swp2kr := ⟨rfl, by decide, by decide⟩
theorem rot2kr : Statement .rot2kr := ⟨rfl, by decide, by decide⟩
theorem dup2kr : Statement .dup2kr := ⟨rfl, by decide, by decide⟩
theorem ovr2kr : Statement .ovr2kr := ⟨rfl, by decide, by decide⟩
theorem equ2kr : Statement .equ2kr := ⟨rfl, by decide, by decide⟩
theorem gth2kr : Statement .gth2kr := ⟨rfl, by decide, by decide⟩
theorem jmp2kr : Statement .jmp2kr := ⟨rfl, by decide, by decide⟩
theorem jcn2kr : Statement .jcn2kr := ⟨rfl, by decide, by decide⟩
theorem jsr2kr : Statement .jsr2kr := ⟨rfl, by decide, by decide⟩
theorem sth2kr : Statement .sth2kr := ⟨rfl, by decide, by decide⟩
theorem rsvEE : Statement .rsvEE := ⟨rfl, by decide, by decide⟩
theorem rsvEF : Statement .rsvEF := ⟨rfl, by decide, by decide⟩
theorem ldz2kr : Statement .ldz2kr := ⟨rfl, by decide, by decide⟩
theorem stz2kr : Statement .stz2kr := ⟨rfl, by decide, by decide⟩
theorem ldr2kr : Statement .ldr2kr := ⟨rfl, by decide, by decide⟩
theorem str2kr : Statement .str2kr := ⟨rfl, by decide, by decide⟩
theorem lda2kr : Statement .lda2kr := ⟨rfl, by decide, by decide⟩
theorem sta2kr : Statement .sta2kr := ⟨rfl, by decide, by decide⟩
theorem pic2kr : Statement .pic2kr := ⟨rfl, by decide, by decide⟩
theorem put2kr : Statement .put2kr := ⟨rfl, by decide, by decide⟩
theorem adc2kr : Statement .adc2kr := ⟨rfl, by decide, by decide⟩
theorem sbc2kr : Statement .sbc2kr := ⟨rfl, by decide, by decide⟩
theorem mul2kr : Statement .mul2kr := ⟨rfl, by decide, by decide⟩
theorem dvm2kr : Statement .dvm2kr := ⟨rfl, by decide, by decide⟩
theorem and2kr : Statement .and2kr := ⟨rfl, by decide, by decide⟩
theorem ior2kr : Statement .ior2kr := ⟨rfl, by decide, by decide⟩
theorem xor2kr : Statement .xor2kr := ⟨rfl, by decide, by decide⟩
theorem sft2kr : Statement .sft2kr := ⟨rfl, by decide, by decide⟩

end Sys2Proof.Laws.EncodingIsOneInstruction
end

