-- ==== Sys2Proof/Laws/Step.lean ====
section
/-! SUPPORT. What the fetch can do, said once, and the step as the execution of what was fetched. -/

namespace Sys2Proof.Machine

/-- A running machine's step executes what it fetched (40_cycle.md R110). -/
theorem step_running {s : State} (h : s.status = .running) : step s = exec (fetch s).1 (fetch s).2 := by
  unfold step
  rw [h]

/-- A machine that is not running changes nothing (40_cycle.md R110). -/
theorem step_stopped {s : State} (h : s.status ≠ .running) : step s = .next s := by
  unfold step
  split
  · next hs => exact absurd hs h
  · rfl
  · rfl

/-- A fetch can only make read requests: everything else, RAM, `pc` and the status among it, stays. -/
theorem fetch_keeps (s : State) :
    BusKeeps s (fetch s).2 ∧ (fetch s).2.status = s.status ∧ (fetch s).2.ram = s.ram := by
  have h := memRead_keeps .one s.pc s
  unfold fetch
  dsimp only
  split
  · exact h
  · next st w _ =>
    have h' := memRead_keeps w ((read8 s.pc s).2.pc + 1) (read8 s.pc s).2
    exact ⟨h.1.trans h'.1, h'.2.1.trans h.2.1, h'.2.2.trans h.2.2⟩

/-- A one-byte opcode in RAM is fetched with no effect (20_memory.md R55). -/
theorem fetch_ram_whole {s : State} {i : Instr} (hr : isRam s.pc = true)
    (hi : decodeHead (ramRead s.pc s) = .whole i) : fetch s = (i, s) := by
  simp only [fetch, read8_ram hr, hi]

end Sys2Proof.Machine
end

