-- ==== Sys2Proof/Tests/Slice0.lean ====
section
/-! SUPPORT. Tests. Each expected result is transcribed from the vectors of spec/95_test_vectors.md, whose id the
docstring gives, or worked out by hand from the rule it names. The theorems `witness_…` show that the hypotheses
of the statement of that name are met, at the ends of their ranges. -/

namespace Sys2Proof.Tests

open Sys2Proof Sys2Proof.Machine

/-! ## Helpers -/

/-- Cells stored one by one. -/
def storeCells (cells : List Host.Cell) (s : State) : State :=
  match cells with
  | [] => s
  | c :: rest => storeCells rest { s with ram := s.ram.write c.1 c.2 }

/-- A machine at an address with the bytes of an instruction there, both stacks (deepest cell first), the flags
and some cells. Slot 0 alone is populated, and answers `None` to two writes. -/
def before (pc : Addr) (bytes working ret : List Byte) (flags : Byte) (cells : List Host.Cell) : State :=
  storeCells cells (placeInstruction bytes
    (pushAll .ret ret (pushAll .working working
      { State.reset with pc := pc, flags := flags, writeInputs := [.none, .none] })))

/-- The machine runs, with these stacks, flags, next fetch and cells, and RAM in canonical form. -/
def after (a : Answer) (working ret : List Byte) (flags : Byte) (pc : Addr) (cells : List Host.Cell) : Bool :=
  match a with
  | .next t =>
    t.wsp == 255 - BitVec.ofNat 8 working.length && t.rsp == 255 - BitVec.ofNat 8 ret.length &&
    (popAll .working working.length t).1 == working.reverse && (popAll .ret ret.length t).1 == ret.reverse &&
    t.flags == flags && t.pc == pc && cells.all (fun c => t.ram.read c.1 == c.2) &&
    decide (t.status = .running) && t.ram.wf
  | .fault _ => false
  | .refused _ => false

/-- The machine with devices in slots 0, 1 and 3, and what they answer the coming writes and reads. -/
def withDevices (answers : List Response) (reads : List Byte) (s : State) : State :=
  { s with
    slots := #v[some 0, some 1, none, some 1, none, none, none, none, none, none, none, none, none, none,
      none, none]
    writeInputs := answers
    readInputs := reads }

/-- The fields a write leaves that the bus tests look at: status, trace, `last_dma_source` and some cells. -/
def busAfter (f : Flow) (status : Status) (trace : List BusEvent) (source : Option Slot)
    (cells : List Host.Cell) : Bool :=
  let good (t : State) : Bool := decide (t.status = status) && decide (t.busTrace = trace) &&
    decide (t.lastDmaSource = source) && cells.all fun c => t.ram.read c.1 == c.2
  match f with
  | .done t => good t
  | .halted t => good t
  | .stuck => false

/-! ## Well-formedness: an ill-formed term for each check, which the check refuses -/

/-- Op 3 with keep alone is RTI, not POPk (30_encoding.md R93). -/
theorem test_wellFormedForm_refuses_popk : wellFormedForm .pop ⟨true, .working, .one⟩ = false := by decide

theorem test_wellFormedForm_accepts_pop2k : wellFormedForm .pop ⟨true, .working, .two⟩ = true := by decide

/-- No byte, a LIT without its literal, a LIT2 with half of it, and a byte too many (30_encoding.md R90). -/
theorem test_wellFormedBytes_refuses : wellFormedBytes [] = false ∧ wellFormedBytes [0x80] = false ∧
    wellFormedBytes [0xA0, 0x12] = false ∧ wellFormedBytes [0x00, 0x00] = false := by decide

theorem test_wellFormedBytes_accepts : wellFormedBytes [0xE0, 0xBE, 0xEF] = true := by decide

/-! ## Decoding: bytes written out from 30_encoding.md R91 to R95 -/

/-- V-SRC-9, and the decoding vectors of part 2. -/
theorem test_decode_op0 : decode [0x20] = .ok (.sec, []) ∧ decode [0x40] = .ok (.clc, []) ∧
    decode [0x60] = .ok (.ext, []) ∧ decode [0x83] = .ok (.rti, []) ∧ decode [0x00] = .ok (.nop, []) ∧
    decode [0x80, 0x12] = .ok (.lit 0x12, []) ∧ decode [0xA0, 0x12, 0x34] = .ok (.lit2 0x1234, []) ∧
    decode [0xC0, 0xAB] = .ok (.litr 0xAB, []) ∧ decode [0xE0, 0xBE, 0xEF] = .ok (.lit2r 0xBEEF, []) := by
  decide

theorem test_decode_reserved : decode [0x61] = .ok (.rsv61, []) ∧ decode [0xAF] = .ok (.rsvAF, []) := by
  decide

theorem test_decode_stack_family : decode [0x03] = .ok (.pop, []) ∧ decode [0xA3] = .ok (.pop2k, []) ∧
    decode [0x24] = .ok (.swp2, []) ∧ decode [0xC5] = .ok (.rotkr, []) ∧ decode [0x46] = .ok (.dupr, []) ∧
    decode [0x87] = .ok (.ovrk, []) ∧ decode [0x6D] = .ok (.sth2r, []) ∧ decode [0x96] = .ok (.pick, []) ∧
    decode [0x37] = .ok (.put2, []) := by decide

theorem test_decode_control_family : decode [0x28] = .ok (.equ2, []) ∧ decode [0x89] = .ok (.gthk, []) ∧
    decode [0x6A] = .ok (.jmp2r, []) ∧ decode [0x4B] = .ok (.jcnr, []) ∧ decode [0xEC] = .ok (.jsr2kr, []) := by
  decide

theorem test_decode_memory_family : decode [0x10] = .ok (.ldz, []) ∧ decode [0x31] = .ok (.stz2, []) ∧
    decode [0x52] = .ok (.ldrr, []) ∧ decode [0x93] = .ok (.strk, []) ∧ decode [0xF4] = .ok (.lda2kr, []) ∧
    decode [0x35] = .ok (.sta2, []) := by decide

theorem test_decode_arith_family : decode [0xF8] = .ok (.adc2kr, []) ∧ decode [0x59] = .ok (.sbcr, []) ∧
    decode [0x3A] = .ok (.mul2, []) ∧ decode [0x9B] = .ok (.dvmk, []) ∧ decode [0x1C] = .ok (.and, []) ∧
    decode [0x7D] = .ok (.ior2r, []) ∧ decode [0xBE] = .ok (.xor2k, []) ∧ decode [0xFF] = .ok (.sft2kr, []) := by
  decide

/-- No byte, and literals cut short, are refused by name. -/
theorem test_decode_refuses : decode [] = .error .noOpcode ∧ decode [0x80] = .error .literalCutShort ∧
    decode [0xA0, 0x12] = .error .literalCutShort := by decide

/-- Every byte decodes to an instruction whose encoding begins with it (30_encoding.md R93, R98). -/
theorem test_decode_total : ∀ b : Byte,
    (match decode [b, 0x12, 0x34] with
      | .ok (i, _) => (encode i).head? == some b
      | .error _ => false) = true := by decide

/-- The bits of a table word: the opcode in the first byte, the literal after it, high byte first. -/
theorem test_decodeTableWord : decodeTableWord 24 0x3412A0 = some (.lit2 0x1234) ∧
    decodeTableWord 8 0xA0 = some (.lit2 0x0000) ∧ decodeTableWord 8 0x1B = some .dvm := by decide

/-! ## One step -/

/-- V41-1. -/
theorem test_lit :
    after (step (before 0x0400 [0x80, 0x12] [] [] 0x00 []))
      [0x12] [] 0x00 0x0402 [] = true := by
  decide

/-- V41-2. -/
theorem test_lit2 :
    after (step (before 0x0400 [0xA0, 0x12, 0x34] [] [] 0x00 []))
      [0x34, 0x12] [] 0x00 0x0403 [] = true := by
  decide

/-- V41-3. -/
theorem test_litr :
    after (step (before 0x0400 [0xC0, 0xAB] [] [] 0x00 []))
      [] [0xAB] 0x00 0x0402 [] = true := by
  decide

/-- V41-4. -/
theorem test_lit2r :
    after (step (before 0x0400 [0xE0, 0xBE, 0xEF] [] [] 0x00 []))
      [] [0xEF, 0xBE] 0x00 0x0403 [] = true := by
  decide

/-- V41-6. -/
theorem test_sec :
    after (step (before 0x0400 [0x20] [] [] 0x00 []))
      [] [] 0x01 0x0401 [] = true := by
  decide

/-- V41-8. -/
theorem test_clc_keeps_other_bits :
    after (step (before 0x0400 [0x40] [] [] 0x81 []))
      [] [] 0x80 0x0401 [] = true := by
  decide

/-- V41-9. -/
theorem test_ext_pushes_on_working :
    after (step (before 0x0400 [0x60] [0x07] [0x09] 0x00 []))
      [0x07, 0x00] [0x09] 0x00 0x0401 [] = true := by
  decide

/-- V41-11. -/
theorem test_reserved_all_modes :
    after (step (before 0x0400 [0xEF] [0x01, 0x02] [] 0x00 []))
      [0x01, 0x02] [] 0x00 0x0401 [] = true := by
  decide

/-- V41-12. -/
theorem test_reserved :
    after (step (before 0x0400 [0x21] [0x01, 0x02] [] 0x00 []))
      [0x01, 0x02] [] 0x00 0x0401 [] = true := by
  decide

/-- V42-2. -/
theorem test_pop2 :
    after (step (before 0x0400 [0x23] [0x11, 0x22, 0x33] [] 0x00 []))
      [0x11] [] 0x00 0x0401 [] = true := by
  decide

/-- V42-3. -/
theorem test_popr :
    after (step (before 0x0400 [0x43] [] [0x44] 0x00 []))
      [] [] 0x00 0x0401 [] = true := by
  decide

/-- V42-7. -/
theorem test_swp2 :
    after (step (before 0x0400 [0x24] [0x34, 0x12, 0x78, 0x56] [] 0x00 []))
      [0x78, 0x56, 0x34, 0x12] [] 0x00 0x0401 [] = true := by
  decide

/-- V42-8. -/
theorem test_swpk :
    after (step (before 0x0400 [0x84] [0x01, 0x02] [] 0x00 []))
      [0x01, 0x02, 0x02, 0x01] [] 0x00 0x0401 [] = true := by
  decide

/-- V42-9. -/
theorem test_rot :
    after (step (before 0x0400 [0x05] [0x01, 0x02, 0x03] [] 0x00 []))
      [0x02, 0x03, 0x01] [] 0x00 0x0401 [] = true := by
  decide

/-- V42-11. -/
theorem test_rotk :
    after (step (before 0x0400 [0x85] [0x01, 0x02, 0x03] [] 0x00 []))
      [0x01, 0x02, 0x03, 0x02, 0x03, 0x01] [] 0x00 0x0401 [] = true := by
  decide

/-- V42-13. -/
theorem test_dup2 :
    after (step (before 0x0400 [0x26] [0x34, 0x12] [] 0x00 []))
      [0x34, 0x12, 0x34, 0x12] [] 0x00 0x0401 [] = true := by
  decide

/-- V42-14. -/
theorem test_dupk :
    after (step (before 0x0400 [0x86] [0x09] [] 0x00 []))
      [0x09, 0x09, 0x09] [] 0x00 0x0401 [] = true := by
  decide

/-- V42-16. -/
theorem test_ovr2 :
    after (step (before 0x0400 [0x27] [0x34, 0x12, 0x78, 0x56] [] 0x00 []))
      [0x34, 0x12, 0x78, 0x56, 0x34, 0x12] [] 0x00 0x0401 [] = true := by
  decide

/-- V42-17. -/
theorem test_ovrk :
    after (step (before 0x0400 [0x87] [0x01, 0x02] [] 0x00 []))
      [0x01, 0x02, 0x01, 0x02, 0x01] [] 0x00 0x0401 [] = true := by
  decide

/-- V42-19. -/
theorem test_sthr :
    after (step (before 0x0400 [0x4D] [] [0x42] 0x00 []))
      [0x42] [] 0x00 0x0401 [] = true := by
  decide

/-- V42-21. -/
theorem test_sthk :
    after (step (before 0x0400 [0x8D] [0x42] [] 0x00 []))
      [0x42] [0x42] 0x00 0x0401 [] = true := by
  decide

/-- V42-24. -/
theorem test_pick_offset_zero :
    after (step (before 0x0400 [0x96] [0xAA, 0xBB, 0xCC, 0x00] [] 0x00 []))
      [0xAA, 0xBB, 0xCC, 0x00, 0x00] [] 0x00 0x0401 [] = true := by
  decide

/-- V42-25. -/
theorem test_pic2 :
    after (step (before 0x0400 [0x36] [0x34, 0x12, 0x78, 0x56, 0x00] [] 0x00 []))
      [0x34, 0x12, 0x78, 0x56, 0x78, 0x56] [] 0x00 0x0401 [] = true := by
  decide

/-- V42-27. -/
theorem test_putk :
    after (step (before 0x0400 [0x97] [0xAA, 0xBB, 0xCC, 0x55, 0x03] [] 0x00 []))
      [0xAA, 0x55, 0xCC, 0x55, 0x03] [] 0x00 0x0401 [] = true := by
  decide

/-- V42-28. -/
theorem test_put2 :
    after (step (before 0x0400 [0x37] [0x00, 0x00, 0xCC, 0x34, 0x12, 0x00] [] 0x00 []))
      [0x00, 0x34, 0x12] [] 0x00 0x0401 [] = true := by
  decide

/-- V43-3. -/
theorem test_equ2 :
    after (step (before 0x0400 [0x28] [0x34, 0x12, 0x34, 0x12] [] 0x00 []))
      [0x01] [] 0x00 0x0401 [] = true := by
  decide

/-- V43-2. -/
theorem test_equ :
    after (step (before 0x0400 [0x08] [0x12, 0x13] [] 0x00 []))
      [0x00] [] 0x00 0x0401 [] = true := by
  decide

/-- V43-6. -/
theorem test_gth_is_signed :
    after (step (before 0x0400 [0x09] [0x80, 0x7F] [] 0x00 []))
      [0x00] [] 0x00 0x0401 [] = true := by
  decide

/-- V43-10. -/
theorem test_gth2_is_signed :
    after (step (before 0x0400 [0x29] [0xFF, 0x7F, 0x00, 0x80] [] 0x00 []))
      [0x01] [] 0x00 0x0401 [] = true := by
  decide

/-- V43-13. -/
theorem test_jmp_wraps :
    after (step (before 0x0010 [0x0A] [0x80] [] 0x00 []))
      [] [] 0x00 0xFF90 [] = true := by
  decide

/-- V43-18. -/
theorem test_jmp2r :
    after (step (before 0x0400 [0x6A] [] [0x06, 0x03] 0x00 []))
      [] [] 0x00 0x0306 [] = true := by
  decide

/-- V43-20. -/
theorem test_jcn_not_taken :
    after (step (before 0x0400 [0x0B] [0x00, 0x03] [] 0x00 []))
      [] [] 0x00 0x0401 [] = true := by
  decide

/-- V43-21. -/
theorem test_jcn2_any_nonzero :
    after (step (before 0x0400 [0x2B] [0x80, 0x34, 0x12] [] 0x00 []))
      [] [] 0x00 0x1234 [] = true := by
  decide

/-- V43-23. -/
theorem test_jsr_relative :
    after (step (before 0x0305 [0x0C] [0x10] [] 0x00 []))
      [] [0x06, 0x03] 0x00 0x0315 [] = true := by
  decide

/-- V43-25. -/
theorem test_jsr2r :
    after (step (before 0x0305 [0x6C] [] [0x10, 0x03] 0x00 []))
      [0x06, 0x03] [] 0x00 0x0310 [] = true := by
  decide

/-- V43-26. -/
theorem test_rti :
    after (step (before 0x0400 [0x83] [0x01] [0x06, 0x03] 0x00 []))
      [] [] 0x01 0x0306 [] = true := by
  decide

/-- V43-27. -/
theorem test_rti_all_flag_bits :
    after (step (before 0x0400 [0x83] [0xFE] [0x00, 0x00] 0x01 []))
      [] [] 0xFE 0x0000 [] = true := by
  decide

/-- V44-3. -/
theorem test_ldz2_at_page_end :
    after (step (before 0x0400 [0x30] [0xFF] [] 0x00 [(0x00FF, 0xAB)]))
      [0x00, 0xAB] [] 0x00 0x0401 [] = true := by
  decide

/-- V44-4. -/
theorem test_ldzk :
    after (step (before 0x0400 [0x90] [0x20] [] 0x00 [(0x0020, 0x07)]))
      [0x20, 0x07] [] 0x00 0x0401 [] = true := by
  decide

/-- V44-6. -/
theorem test_stz2 :
    after (step (before 0x0400 [0x31] [0x34, 0x12, 0x20] [] 0x00 []))
      [] [] 0x00 0x0401 [(0x0020, 0x12), (0x0021, 0x34)] = true := by
  decide

/-- V44-7. -/
theorem test_stzk :
    after (step (before 0x0400 [0x91] [0x03, 0x20] [] 0x00 []))
      [0x03, 0x20] [] 0x00 0x0401 [(0x0020, 0x03)] = true := by
  decide

/-- V44-9. -/
theorem test_ldr_reads_itself :
    after (step (before 0x0400 [0x12] [0x00] [] 0x00 []))
      [0x12] [] 0x00 0x0401 [] = true := by
  decide

/-- V44-10. -/
theorem test_ldr2_backwards :
    after (step (before 0x0400 [0x32] [0xFE] [] 0x00 [(0x03FE, 0xCA), (0x03FF, 0xFE)]))
      [0xFE, 0xCA] [] 0x00 0x0401 [] = true := by
  decide

/-- V44-12. -/
theorem test_str_next_opcode :
    after (step (before 0x0400 [0x13] [0x99, 0x01] [] 0x00 []))
      [] [] 0x00 0x0401 [(0x0401, 0x99)] = true := by
  decide

/-- V44-11. -/
theorem test_str_backwards :
    after (step (before 0x0400 [0x13] [0x99, 0xFE] [] 0x00 []))
      [] [] 0x00 0x0401 [(0x03FE, 0x99)] = true := by
  decide

/-- V44-15. -/
theorem test_lda_unpopulated :
    after (step (before 0x0400 [0x14] [0x25, 0xFF] [] 0x00 []))
      [0x00] [] 0x00 0x0401 [] = true := by
  decide

/-- V44-20. -/
theorem test_ldar :
    after (step (before 0x0400 [0x54] [] [0x00, 0x12] 0x00 [(0x1200, 0x5A)]))
      [] [0x5A] 0x00 0x0401 [] = true := by
  decide

/-- V44-17. -/
theorem test_sta2 :
    after (step (before 0x0400 [0x35] [0x24, 0x03, 0x10, 0x00] [] 0x00 []))
      [] [] 0x00 0x0401 [(0x0010, 0x03), (0x0011, 0x24)] = true := by
  decide

/-- V44-16. -/
theorem test_sta :
    after (step (before 0x0400 [0x15] [0x77, 0x00, 0x12] [] 0x00 []))
      [] [] 0x00 0x0401 [(0x1200, 0x77)] = true := by
  decide

/-- V45-3. -/
theorem test_adc_carry_in_and_out :
    after (step (before 0x0400 [0x18] [0xFF, 0x00] [] 0x01 []))
      [0x00] [] 0x01 0x0401 [] = true := by
  decide

/-- V45-5. -/
theorem test_adc2_no_inner_carry :
    after (step (before 0x0400 [0x38] [0xFF, 0x00, 0x01, 0x00] [] 0x00 []))
      [0x00, 0x01] [] 0x00 0x0401 [] = true := by
  decide

/-- V45-9. -/
theorem test_sbc_borrow_in :
    after (step (before 0x0400 [0x19] [0x05, 0x03] [] 0x00 []))
      [0x01] [] 0x01 0x0401 [] = true := by
  decide

/-- V45-10. -/
theorem test_sbc_borrow_out :
    after (step (before 0x0400 [0x19] [0x00, 0x01] [] 0x01 []))
      [0xFF] [] 0x00 0x0401 [] = true := by
  decide

/-- V45-14. -/
theorem test_mul_wraps :
    after (step (before 0x0400 [0x1A] [0x10, 0x10] [] 0x00 []))
      [0x00] [] 0x00 0x0401 [] = true := by
  decide

/-- V45-15. -/
theorem test_mul2_wraps :
    after (step (before 0x0400 [0x3A] [0x00, 0x01, 0x00, 0x01] [] 0x00 []))
      [0x00, 0x00] [] 0x00 0x0401 [] = true := by
  decide

/-- V45-19. -/
theorem test_dvm2 :
    after (step (before 0x0400 [0x3B] [0xE8, 0x03, 0x07, 0x00] [] 0x00 []))
      [0x8E, 0x00, 0x06, 0x00] [] 0x00 0x0401 [] = true := by
  decide

/-- V45-20. -/
theorem test_dvmk :
    after (step (before 0x0400 [0x9B] [0x64, 0x07] [] 0x00 []))
      [0x64, 0x07, 0x0E, 0x02] [] 0x00 0x0401 [] = true := by
  decide

/-- V45-26. -/
theorem test_and2 :
    after (step (before 0x0400 [0x3C] [0x0F, 0xF0, 0xFF, 0x0F] [] 0x00 []))
      [0x0F, 0x00] [] 0x00 0x0401 [] = true := by
  decide

/-- V45-24. -/
theorem test_ior :
    after (step (before 0x0400 [0x1D] [0xF0, 0x3C] [] 0x00 []))
      [0xFC] [] 0x00 0x0401 [] = true := by
  decide

/-- V45-25. -/
theorem test_xor :
    after (step (before 0x0400 [0x1E] [0xF0, 0x3C] [] 0x00 []))
      [0xCC] [] 0x00 0x0401 [] = true := by
  decide

/-- V45-29. -/
theorem test_sft_left_first :
    after (step (before 0x0400 [0x1F] [0xFF, 0x44] [] 0x00 []))
      [0x0F] [] 0x00 0x0401 [] = true := by
  decide

/-- V45-32. -/
theorem test_sft2 :
    after (step (before 0x0400 [0x3F] [0x01, 0x80, 0xFF] [] 0x00 []))
      [0x01, 0x00] [] 0x00 0x0401 [] = true := by
  decide

/-- V41-10. -/
theorem test_nop : after (step (before 0x0400 [0x00] [] [] 0x00 [])) [] [] 0x00 0x0401 [] = true := by
  decide

/-- V42-4: POP2k changes nothing but `pc`. -/
theorem test_pop2k : after (step (before 0x0400 [0xA3] [0x11, 0x22] [] 0x00 []))
    [0x11, 0x22] [] 0x00 0x0401 [] = true := by decide

/-- V45-21, V40-4: the fault is precise. -/
theorem test_dvm_zero_divisor : ∃ t, step (before 0x0400 [0x1B] [0x64, 0x00] [] 0x00 []) = .next t ∧
    t.status = .faulted .divideByZero 0x0400 ∧ t.pc = 0x0400 ∧ t.wsp = 0xFD ∧
    (popAll .working 2 t).1 = [0x00, 0x64] ∧ driverResult t = some (.faulted .divideByZero 0x0400) :=
  ⟨_, rfl, by decide⟩

/-- The cause table of rule R222. -/
theorem test_cause_code : Cause.divideByZero.code = 1 := by decide

/-- V45-22. -/
theorem test_dvm2_zero_divisor : ∃ t, step (before 0x0400 [0x3B] [0x64, 0x00, 0x00, 0x00] [] 0x00 []) = .next t ∧
    t.status = .faulted .divideByZero 0x0400 ∧ t.pc = 0x0400 ∧ t.wsp = 0xFB :=
  ⟨_, rfl, by decide⟩

/-- V40-1: the fetch at `0xFFFF` from an unpopulated slot is a NOP, and `pc` wraps. -/
theorem test_fetch_wraps : after (step (before 0xFFFF [] [] [] 0x00 [])) [] [] 0x00 0x0000 [] = true := by
  decide

/-! ## Stack primitives -/

/-- V10-1. -/
theorem test_push16_wraps : (push16 .working 0xABCD { State.reset with wsp := 0x00 }).ram.read 0x0100 = 0xCD ∧
    (push16 .working 0xABCD { State.reset with wsp := 0x00 }).ram.read 0x01FF = 0xAB ∧
    (push16 .working 0xABCD { State.reset with wsp := 0x00 }).wsp = 0xFE := by decide

/-- V10-2. -/
theorem test_pop16_wraps :
    (pop16 .working { State.reset with wsp := 0xFE, ram := [(0x0100, 0xCD), (0x01FF, 0xAB)] }).1 = 0xABCD ∧
    (pop16 .working { State.reset with wsp := 0xFE, ram := [(0x0100, 0xCD), (0x01FF, 0xAB)] }).2.wsp = 0x00 := by
  decide

/-- V10-3. -/
theorem test_peek16_index_wraps :
    peek16 .working 0 { State.reset with ram := [(0x0100, 0x12), (0x0101, 0x34)] } = 0x1234 := by decide

/-- V10-4. -/
theorem test_poke8 : (poke8 .ret 1 0x55 { State.reset with rsp := 0xFD }).ram = [(0x02FF, 0x55)] ∧
    (poke8 .ret 1 0x55 { State.reset with rsp := 0xFD }).rsp = 0xFD := by decide

/-! ## Memory router, device bus and DMA -/

/-- V-SRC-10. -/
theorem test_device_address_split : busSlot 0x25 = 2 ∧ busPort 0x25 = 5 ∧ busSlot 0xFF = 15 ∧
    busPort 0x0F = 15 ∧ isRam 0xFEFF = true ∧ isRam 0xFF00 = false := by decide

/-- V20-1. -/
theorem test_read16_at_top : (read16 0xFFFF { State.reset with ram := [(0x0000, 0x77)] }).1 = 0x0077 := by
  decide

/-- V20-3. -/
theorem test_dma_to_memory :
    busAfter (write8 4 0xFF11 0x00 (withDevices [.devToMem 0x04FE [0x11, 0x22, 0x33]] [] State.reset))
      .running [.write 1 1 0x00] none [(0x04FE, 0x11), (0x04FF, 0x22), (0x0500, 0x33)] = true := by
  decide

/-- V20-4. -/
theorem test_dma_nested :
    busAfter (write8 4 0xFF11 0x00
      (withDevices [.devToMem 0xFF12 [0x07], .memToDev 0x0400 2] []
        (storeCells [(0x0400, 0xAB), (0x0401, 0xCD)] State.reset)))
      .running [.write 1 1 0x00, .write 1 2 0x07, .dmaCallback 1 [0xAB, 0xCD]] (some 1)
      [(0x0400, 0xAB)] = true := by decide

/-- V20-5: reads that run through the device region and wrap. -/
theorem test_dma_from_memory_wraps :
    busAfter (write8 4 0xFF12 0x00
      (withDevices [.memToDev 0xFFFE 4] [] (storeCells [(0x0000, 0x5A), (0x0001, 0x5B)] State.reset)))
      .running [.write 1 2 0x00, .dmaCallback 1 [0x00, 0x00, 0x5A, 0x5B]] (some 1) [] = true := by
  decide

/-- V20-6, with slot 3 populated too: the DMA ends at the halt. -/
theorem test_dma_halts_midway :
    busAfter (write8 4 0xFF11 0x00
      (withDevices [.devToMem 0xFF0E [0x00, 0x09, 0x33], .none, .shutdown (.ofByte 9)] [] State.reset))
      (.halted (.ofByte 9)) [.write 1 1 0x00, .write 0 14 0x00, .write 0 15 0x09, .shutdown 0, .shutdown 1, .shutdown 3]
      none [] = true := by decide

/-- Rules R62 and R72: a nested write to an unpopulated slot ends, even where no fuel is left. -/
theorem test_dma_to_unpopulated_slot :
    busAfter (write8 0 0xFF11 0x00 (withDevices [.devToMem 0xFFFF [0x11, 0x22]] [] State.reset))
      .running [.write 1 1 0x00] none [(0x0000, 0x22)] = true := by decide

/-- V20-8. -/
theorem test_unpopulated_slot : write8 4 0xFF20 0x99 State.reset = .done State.reset ∧
    read8 0xFF20 State.reset = (0x00, State.reset) := ⟨rfl, rfl⟩

/-- V20-9. -/
theorem test_dma_of_no_bytes :
    busAfter (write8 4 0xFF11 0x00 (withDevices [.devToMem 0x1000 []] [] State.reset))
      .running [.write 1 1 0x00] none [(0x1000, 0x00)] = true := by decide

/-- V-SRC-7: the shutdown hooks run in slot order and `pc` stays at the STA. -/
theorem test_sta_shuts_down : ∃ t,
    step (withDevices [.shutdown (.ofByte 5)] [] (before 0x0400 [0x15] [0x05, 0x0F, 0xFF] [] 0x00 [])) = .next t ∧
    t.status = .halted (.ofByte 5) ∧ t.pc = 0x0400 ∧ t.wsp = 0xFF ∧
    t.busTrace = [.write 0 15 0x05, .shutdown 0, .shutdown 1, .shutdown 3] ∧
    driverResult t = some (.halted (.ofByte 5)) :=
  ⟨_, rfl, by decide⟩

/-- V44-18: the first byte to RAM, the second to slot 0 port 0. -/
theorem test_sta2_into_device_region : ∃ t,
    step (before 0x0400 [0x35] [0xCD, 0xAB, 0xFF, 0xFE] [] 0x00 []) = .next t ∧ t.ram.read 0xFEFF = 0xAB ∧
    t.busTrace = [.write 0 0 0xCD] ∧ t.pc = 0x0401 :=
  ⟨_, rfl, by decide⟩

/-! ## Construction -/

/-- Device kinds for the tests: kind 0 is mandatory, kind 1 takes exactly one option. -/
def testKinds : DeviceKinds where
  mandatory := 0
  known := [0, 1]
  accepts kind options := if kind = 1 then options.length == 1 else options.length == 0

/-- V-SRC-8. -/
theorem test_placements_rejected :
    configErrors testKinds [] [⟨0, 1, ["disk.img"]⟩] = [.slotZero] ∧
    configErrors testKinds [] [⟨1, 0, []⟩] = [.duplicateMandatory] ∧
    configErrors testKinds [] [⟨1, 1, []⟩] = [.badOptions] ∧
    configErrors testKinds [] [⟨1, 1, ["a", "b"]⟩] = [.badOptions] ∧
    configErrors testKinds [] [⟨16, 1, ["disk.img"]⟩] = [.slotOutOfRange] ∧
    configErrors testKinds [] [⟨1, 1, ["a"]⟩, ⟨1, 1, ["b"]⟩] = [.duplicateSlot] ∧
    configErrors testKinds [] [⟨1, 7, []⟩] = [.unknownKind] := by decide

/-- V70-1, and the accepted placement of V-SRC-8. -/
theorem test_construct : ∃ s, construct testKinds [0x80, 0x01] [⟨1, 1, ["disk.img"]⟩] = .ok s ∧
    s.pc = 0x0300 ∧ s.wsp = 0xFF ∧ s.rsp = 0xFF ∧ s.flags = 0x00 ∧ s.ram = [(0x0300, 0x80), (0x0301, 0x01)] ∧
    s.status = .running ∧ present 1 s = true ∧ present 2 s = false :=
  ⟨_, rfl, by decide⟩

/-- V70-2: from reset with nothing placed, the first step is a NOP. -/
theorem test_first_step_from_reset : after (step State.reset) [] [] 0x00 0x0301 [] = true := by decide

/-- The interface's word placement runs the word: LIT 0x12 right after reset (V41-1 at `0x0300`). -/
theorem test_withFetchWord : after (step (State.reset.withFetchWord 16 0x1280)) [0x12] [] 0x00 0x0302 [] = true := by
  decide

/-! ## Witnesses: the hypotheses of the statements are met -/

theorem witness_DecodeOfEncodeIsTheInstruction : (Instr.lit2 0x1234).wellFormed = true ∧
    Instr.sft2kr.wellFormed = true := by decide

theorem witness_EncodeOfDecodeIsTheBytes : wellFormedBytes [0xA0, 0x12, 0x34] = true ∧
    wellFormedBytes [0xC0, 0x00] = true ∧ wellFormedBytes [0xFF] = true := by decide

theorem witness_InstructionLengthByOpcodeByte :
    decode [0xA0, 0x12, 0x34, 0x56] = .ok (.lit2 0x1234, [0x56]) ∧
    decode [0x80, 0x12] = .ok (.lit 0x12, []) ∧ decode [0x83, 0x00] = .ok (.rti, [0x00]) := by decide

theorem witness_ReservedBytesAreNoOps : (opBits 0x01).val ∈ [1, 2, 14, 15] ∧
    (opBits 0xEF).val ∈ [1, 2, 14, 15] := by decide

theorem witness_StoppedStepChangesNothing : { State.reset with status := .halted (.ofByte 0) }.status ≠ .running ∧
    { State.reset with status := .faulted .divideByZero 0x0400 }.status ≠ .running := by decide

/-- At the last RAM address, and at the first with the longest instruction. -/
theorem witness_StepRunsTheDecodedInstruction :
    ((before 0xFEFF [0xF8] [] [] 0x00 []).status = .running ∧
      bytesAt 0xFEFF [0xF8] (before 0xFEFF [0xF8] [] [] 0x00 []) ∧
      decode [0xF8] = .ok (.adc2kr, []) ∧ Instr.adc2kr.wellFormed = true) ∧
    bytesAt 0x0000 [0xA0, 0x12, 0x34] (before 0x0000 [0xA0, 0x12, 0x34] [] [] 0x00 []) ∧
      decode [0xA0, 0x12, 0x34] = .ok (.lit2 0x1234, []) ∧ (Instr.lit2 0x1234).wellFormed = true := by
  refine ⟨⟨by decide, ⟨by decide, by decide, trivial⟩, by decide, by decide⟩,
    ⟨by decide, by decide, by decide, by decide, by decide,
      by decide, trivial⟩, by decide, by decide⟩

/-- An unpopulated slot at the last address, and a populated one at the first that answers ADC. -/
theorem witness_FetchInTheDeviceRegion :
    (isRam 0xFFFF = false ∧ present (busSlot (loByte 0xFFFF)) State.reset = false) ∧
    isRam 0xFF00 = false ∧ present (busSlot (loByte 0xFF00)) State.reset = true ∧
    decodeHead (readAnswer (busSlot (loByte 0xFF00)) (busPort (loByte 0xFF00))
      { State.reset with pc := 0xFF00, readInputs := [0x18] }) = .whole .adc := by decide

/-- At the last RAM address, and with the opcode from a device. -/
theorem witness_LitPushesTheBytesAfterTheOpcode :
    (let s := before 0xFEFF [0xA0] [] [] 0x00 []
     s.status = .running ∧ decodeHead (read8 s.pc s).1 = .literal .working .two) ∧
    (let s := { State.reset with pc := 0xFF00, readInputs := [0xC0, 0x12] }
     s.status = .running ∧ decodeHead (read8 s.pc s).1 = .literal .ret .one) := by decide

theorem witness_PlainInstructionsGoToTheNextByte :
    (∃ t, (State.reset.status = .running ∧ exec .adc State.reset = .next t ∧ t.status = .running)) ∧
    ¬ movesPc .adc := by
  refine ⟨⟨_, by decide, rfl, by decide⟩, ?_⟩
  rintro (⟨st, w, v, h⟩ | h | ⟨op, m, hop, h⟩)
  · cases st <;> cases w <;> cases h
  · cases h
  · simp only [List.mem_cons, List.not_mem_nil, or_false] at hop
    obtain ⟨k, st, w⟩ := m
    rcases hop with rfl | rfl | rfl <;> cases k <;> cases st <;> cases w <;> cases h

theorem witness_MemoriesThatReadAlikeAreEqual :
    let m := Memory.write (Memory.write [] 5 0x01) 3 0x02
    let m' := Memory.write (Memory.write (Memory.write [] 3 0x02) 4 0x07) 5 0x01
    m.wf = true ∧ (m'.write 4 0x00).wf = true ∧ ∀ a, m.read a = (m'.write 4 0x00).read a := by
  refine ⟨by decide, by decide, fun a => ?_⟩
  exact congrArg (Memory.read · a) (by decide)

theorem witness_WordsInRamAreBigEndian : isRam 0x0000 = true ∧ isRam (0x0000 + 1) = true ∧
    isRam 0xFEFE = true ∧ isRam (0xFEFE + 1) = true := by decide

/-- A read that crosses into a device and wraps to RAM, a first byte that is done, and one that halts. -/
theorem witness_WordsInRamAreBigEndian_in_the_device_region :
    (∃ t u, read8 0xFFFF State.reset = (0x00, t) ∧ read8 (0xFFFF + 1) t = (0x00, u)) ∧
    (∃ t, write8 4 0xFEFF (hiByte 0xABCD) State.reset = .done t) ∧
    ∀ t, write8 4 0xFF0F (hiByte 0xABCD) (withDevices [.shutdown (.ofByte 9)] [] State.reset) ≠ .done t :=
  ⟨⟨_, _, rfl, rfl⟩, ⟨_, rfl⟩, fun _ h => by cases h⟩

theorem witness_DevicePortAccess : isRam 0xFF00 = false ∧ isRam 0xFFFF = false ∧
    present (busSlot (loByte 0xFF00)) State.reset = true ∧
    present (busSlot (loByte 0xFFFF)) State.reset = false := by decide

theorem witness_TwoHundredFiftySixPushesWrap : (List.replicate 256 (0x5A : Byte)).length = 256 :=
  List.length_replicate

/-- A DMA that begins in an unpopulated slot at the last address and wraps to RAM. -/
theorem witness_DeviceToMemoryDmaFillsRam :
    let s := withDevices [.devToMem 0xFFFF [0x11, 0x22]] [] State.reset
    let bytes : List Byte := [0x11, 0x22]
    isRam 0xFF11 = false ∧ present (busSlot (loByte 0xFF11)) s = true ∧
    writeAnswer (busSlot (loByte 0xFF11)) (busPort (loByte 0xFF11)) 0x00 s = .devToMem 0xFFFF bytes ∧
    bytes.length ≤ 65536 ∧
    ∀ k, k < bytes.length → isRam (0xFFFF + BitVec.ofNat 16 k) = false →
      present (busSlot (loByte (0xFFFF + BitVec.ofNat 16 k))) s = false := by decide

/-- The range of V20-5. -/
theorem witness_MemoryToDeviceDmaDelivers :
    let s := withDevices [.memToDev 0xFFFE 4] [] State.reset
    isRam 0xFF12 = false ∧ present (busSlot (loByte 0xFF12)) s = true ∧
    writeAnswer (busSlot (loByte 0xFF12)) (busPort (loByte 0xFF12)) 0x00 s = .memToDev 0xFFFE 4 ∧
    ∀ k, k < 4 → isRam (0xFFFE + BitVec.ofNat 16 k) = false →
      present (busSlot (loByte (0xFFFE + BitVec.ofNat 16 k))) s = false := by decide

theorem witness_ShutdownResponseHalts :
    let s := withDevices [.shutdown (.ofByte 9)] [] State.reset
    isRam 0xFF0F = false ∧ present (busSlot (loByte 0xFF0F)) s = true ∧
    writeAnswer (busSlot (loByte 0xFF0F)) (busPort (loByte 0xFF0F)) 0x09 s = .shutdown (.ofByte 9) := by decide

/-- Both clauses, at fuel 0 and at fuel 2 with the longest chain that ends. -/
theorem witness_NestedChainEndsWithinTheFuelOrIsStuck :
    isRam 0xFF11 = false ∧ isRam 0xFF30 = false ∧
    present (busSlot (loByte 0xFF11)) (withDevices [] [] State.reset) = true ∧
    present (busSlot (loByte 0xFF30)) (withDevices [] [] State.reset) = true ∧
    (withDevices [.devToMem 0xFF30 [0x07]] [] State.reset).writeInputs =
      List.replicate (0 + 1) (.devToMem 0xFF30 [0x07]) ∧
    (withDevices [.devToMem 0xFF30 [0x07], .devToMem 0xFF30 [0x07], .none] [] State.reset).writeInputs =
      List.replicate 2 (.devToMem 0xFF30 [0x07]) ++ .none :: [] := by decide

theorem witness_MoreFuelChangesNoCompletedStep :
    ∃ t, { State.reset with dmaFuel := 0 }.dmaFuel ≤ 1 ∧ step { State.reset with dmaFuel := 0 } = .next t :=
  ⟨_, by decide, rfl⟩

theorem witness_PopDropsTheTopOperand : wellFormedForm .pop ⟨false, .working, .one⟩ = true ∧
    wellFormedForm .pop ⟨true, .ret, .two⟩ = true := by decide

theorem witness_PutStoresAtAnOffset :
    let s := before 0x0400 [0x37] [0x00, 0x34, 0x12, 0xFF] [] 0x00 []
    ∃ t, exec .put2 s = .next t ∧
      (0x0000 : Nat) ≠ (cellAddr .working (peekIndex .working (peek8 .working 0 s).toNat t)).toNat ∧
      (0x0000 : Nat) ≠ (cellAddr .working (peekIndex .working ((peek8 .working 0 s).toNat + 1) t)).toNat :=
  ⟨_, rfl, by decide⟩

theorem witness_JmpTwoReturnUndoesJsrTwo :
    ∃ t, exec .jsr2 (before 0x0303 [0x2C] [0x10, 0x03] [] 0x00 []) = .next t ∧
      { t with pc := 0x0311 }.rsp = t.rsp ∧ { t with pc := 0x0311 }.ram = t.ram := ⟨_, rfl, rfl, rfl⟩

/-- The last bytes of RAM, at both widths, by STR and by STA. -/
theorem witness_StoresWriteRam :
    (let s := before 0xFEFE [0x13] [0x99, 0x01] [] 0x00 []
     inRam .one (s.pc + sext16 (peek8 .working 0 s)) = true) ∧
    (let s := before 0xFEFE [0x33] [0x99, 0x98, 0x00] [] 0x00 []
     inRam .two (s.pc + sext16 (peek8 .working 0 s)) = true) ∧
    (let s := before 0x0400 [0x15] [0x77, 0xFF, 0xFE] [] 0x00 []
     inRam .one (peek16 .working 0 s) = true) ∧
    (let s := before 0x0400 [0x35] [0x77, 0x78, 0xFE, 0xFE] [] 0x00 []
     inRam .two (peek16 .working 0 s) = true) := by decide

/-- The three clauses: slot 2 is unpopulated, slot 1 answers `None`, slot 0 answers a shutdown. -/
theorem witness_StaToADevicePort :
    (let s := before 0x0400 [0x15] [0x05, 0x2F, 0xFF] [] 0x00 []
     isRam (peek16 .working 0 s) = false ∧ present (busSlot (loByte (peek16 .working 0 s))) s = false) ∧
    (let s := withDevices [.none] [] (before 0x0400 [0x15] [0x05, 0x1F, 0xFF] [] 0x00 [])
     isRam (peek16 .working 0 s) = false ∧ present (busSlot (loByte (peek16 .working 0 s))) s = true ∧
     writeAnswer (busSlot (loByte (peek16 .working 0 s))) (busPort (loByte (peek16 .working 0 s)))
       (peek8 .working 2 s) s = .none) ∧
    (let s := withDevices [.shutdown (.ofByte 5)] [] (before 0x0400 [0x15] [0x05, 0x00, 0xFF] [] 0x00 [])
     isRam (peek16 .working 0 s) = false ∧ present (busSlot (loByte (peek16 .working 0 s))) s = true ∧
     writeAnswer (busSlot (loByte (peek16 .working 0 s))) (busPort (loByte (peek16 .working 0 s)))
       (peek8 .working 2 s) s = .shutdown (.ofByte 5)) := by decide

/-- The three clauses: a two-byte STR that crosses into slot 0, an STA that halts, and one whose chain has no
fuel. -/
theorem witness_StoresAreTheRoutersWrite :
    (let s := withDevices [.none] [] (before 0xFEFE [0x33] [0xCD, 0xAB, 0x01] [] 0x00 [])
     ∃ u, memWrite .two (storeAddr .str ⟨false, .working, .two⟩ s) (peek .two .working 1 s)
       (dropCells ⟨false, .working, .two⟩ (cellsTaken .str 2) s) = .done u ∧ u.busTrace = [.write 0 0 0xCD]) ∧
    (let s := withDevices [.shutdown (.ofByte 5)] [] (before 0x0400 [0x15] [0x05, 0x0F, 0xFF] [] 0x00 [])
     ∃ u, memWrite .one (storeAddr .sta ⟨false, .working, .one⟩ s) (peek .one .working 2 s)
       (dropCells ⟨false, .working, .one⟩ (cellsTaken .sta 1) s) = .halted u) ∧
    (let s := { withDevices [.devToMem 0xFF30 [0x07]] [] (before 0x0400 [0x15] [0x05, 0x1F, 0xFF] [] 0x00 []) with
       dmaFuel := 0 }
     memWrite .one (storeAddr .sta ⟨false, .working, .one⟩ s) (peek .one .working 2 s)
       (dropCells ⟨false, .working, .one⟩ (cellsTaken .sta 1) s) = .stuck) :=
  ⟨⟨_, rfl, by decide⟩, ⟨_, rfl⟩, rfl⟩

theorem witness_DvmPushesQuotientAndRemainder :
    top ⟨false, .working, .one⟩ (before 0x0400 [0x1B] [0x64, 0x01] [] 0x00 []) ≠ 0 ∧
    top ⟨true, .ret, .two⟩ (before 0x0400 [0xFB] [] [0x64, 0x00, 0x00, 0x01] 0x00 []) ≠ 0 ∧
    top ⟨false, .working, .one⟩ (before 0x0400 [0x1B] [0x64, 0x00] [] 0x00 []) = 0 := by decide

theorem witness_DvmByZeroFaultsPrecisely :
    let s := before 0xFEFF [0x3B] [0x01, 0x00, 0x00, 0x00] [] 0x00 []
    top ⟨false, .working, .two⟩ s = 0 ∧ (∃ t, exec .dvm2 s = .next t) ∧
    s.status = .running ∧ isRam s.pc = true ∧ ramRead s.pc s = opByte 0x1B ⟨false, .working, .two⟩ :=
  ⟨by decide, ⟨_, rfl⟩, by decide, by decide, by decide⟩

/-- DVM with a divisor that is not zero, and a byte of RAM that no push touches. -/
theorem witness_OwnStackFrame :
    let s := before 0x0400 [0x1B] [0x64, 0x07] [] 0x00 []
    BaseOp.dvm ∈ ownStackOps ∧ wellFormedForm .dvm ⟨false, .working, .one⟩ = true ∧
    top ⟨false, .working, .one⟩ s ≠ 0 ∧ ∃ t, exec (form .dvm ⟨false, .working, .one⟩) s = .next t :=
  ⟨by decide, by decide, by decide, _, rfl⟩

theorem witness_OtherStackFrame : ∃ t, exec (form .jsr ⟨true, .ret, .one⟩) State.reset = .next t := ⟨_, rfl⟩

theorem witness_LoadFrame : ∃ t, exec (form .lda ⟨false, .working, .two⟩) State.reset = .next t := ⟨_, rfl⟩

theorem witness_RamStoreFrame :
    let s := before 0x0400 [0x35] [0x77, 0x78, 0xFE, 0xFE] [] 0x00 []
    inRam .two (storeAddr .sta ⟨false, .working, .two⟩ s) = true ∧
    ∃ t, exec (form .sta ⟨false, .working, .two⟩) s = .next t :=
  ⟨by decide, _, rfl⟩

theorem witness_DeviceStoreFrame :
    ∃ t, exec (form .sta ⟨false, .working, .one⟩)
      (withDevices [.shutdown (.ofByte 5)] [] (before 0x0400 [0x15] [0x05, 0x0F, 0xFF] [] 0x00 [])) = .next t := ⟨_, rfl⟩

/-- A device-to-memory DMA, from a state with the invariant and `last_dma_source` set. -/
theorem witness_StepKeepsTheInvariant :
    let s := { withDevices [.devToMem 0x0400 [0x01]] [] (before 0x0400 [0x15] [0x05, 0x1F, 0xFF] [] 0x00 []) with
      lastDmaSource := some 3 }
    Inv s ∧ ∃ t, step s = .next t := by
  refine ⟨⟨by decide, by decide, ?_⟩, _, rfl⟩
  intro slot h
  cases h
  decide

theorem witness_ConstructionEstablishesTheInvariant :
    ∃ s, construct testKinds [0x80, 0x01] [⟨15, 1, ["disk.img"]⟩] = .ok s := ⟨_, rfl⟩

theorem witness_OnlyDvmFaults :
    let s := before 0x0400 [0x1B] [0x64, 0x00] [] 0x00 []
    ∃ t, s.status = .running ∧ step s = .next t ∧ t.status = .faulted .divideByZero 0x0400 :=
  ⟨_, by decide, rfl, by decide⟩

theorem witness_OnlyDeviceStoresHalt :
    let s := withDevices [.shutdown (.ofByte 5)] [] (before 0x0400 [0x15] [0x05, 0x0F, 0xFF] [] 0x00 [])
    ∃ t, s.status = .running ∧ exec .sta s = .next t ∧ t.status = .halted (.ofByte 5) :=
  ⟨_, by decide, rfl, by decide⟩

theorem witness_FlagsChangeOnlyAsListed :
    (∃ t, exec .sec State.reset = .next t ∧ t.flags ≠ State.reset.flags) ∧
    ∃ t, exec .rti (before 0x0400 [0x83] [0xFE] [] 0x01 []) = .next t ∧ t.flags.getLsbD 7 = true :=
  ⟨⟨_, rfl, by decide⟩, _, rfl, by decide⟩

theorem witness_UnusedFlagBitsAffectNothing :
    (0xFE : Byte).getLsbD 0 = State.reset.flags.getLsbD 0 ∧ ∃ t, step State.reset = .next t :=
  ⟨by decide, _, rfl⟩

theorem witness_SlotTableStaysAndTraceGrows :
    ∃ t, step (withDevices [.memToDev 0x0400 2] [] (before 0x0400 [0x15] [0x05, 0x1F, 0xFF] [] 0x00 [])) = .next t :=
  ⟨_, rfl⟩

theorem witness_ResetValues : { testKinds with mandatory := Config.mandatoryKind }.mandatory = Config.mandatoryKind ∧
    ∃ s, construct testKinds [0x80, 0x01] [⟨1, 1, ["disk.img"]⟩] = .ok s := ⟨rfl, _, rfl⟩

/-- An image that is one byte too long (V70-3), and an accepted one. -/
theorem witness_ConstructionLoadsTheImage : 64512 < (List.replicate 64513 (0x00 : Byte)).length ∧
    ∃ s, construct testKinds [0x80, 0x01] [] = .ok s := ⟨by rw [List.length_replicate]; decide, _, rfl⟩

/-- Placements at both ends of the range of slots. -/
theorem witness_ConstructionChecksThePlacements :
    ∃ s, construct testKinds [] [⟨1, 1, ["a"]⟩, ⟨15, 1, ["b"]⟩] = .ok s := ⟨_, rfl⟩

end Sys2Proof.Tests
end

section
/-! The stack pages (00_scope.md R9, 10_state.md R30): the two pages do not overlap, so no cell is a cell of both
stacks, and the numbers of the three bases are as R9 asks. -/

namespace Sys2Proof.Machine

/-- The idea of R9: a page is 256 cells, and the bases lie at least one page apart, in either order. -/
theorem stackBase_page_apart (st : StackId) :
    (stackBase st).toNat + 256 ≤ (stackBase st.other).toNat ∨
      (stackBase st.other).toNat + 256 ≤ (stackBase st).toNat := by
  cases st with
  | working => exact .inl (by decide)
  | ret => exact .inr (by decide)

theorem cellAddr_ne_cellAddr_other (st : StackId) (i j : Byte) :
    cellAddr st i ≠ cellAddr st.other j := by
  intro h
  have same : (stackBase st).toNat + i.toNat = (stackBase st.other).toNat + j.toNat := by
    rw [← cellAddr_toNat, ← cellAddr_toNat, h]
  have apart := stackBase_page_apart st
  have hi := i.isLt
  have hj := j.isLt
  omega

/-- Settles O59: the bases are numbers; a cell's address is its base plus its index, less than 256. -/
theorem stackPagesAreDistinctRam : Obligations.StackPagesAreDistinctRam := by
  unfold Obligations.StackPagesAreDistinctRam
  constructor
  · decide
  · intro st i j
    exact ⟨isRam_cellAddr st i, fun h => cellAddr_inj (congrArg BitVec.toNat h),
      cellAddr_ne_cellAddr_other st i j⟩

end Sys2Proof.Machine
end

section
/-! What every step keeps of the machine's fixed parts (10_state.md R27, R29; 20_memory.md R74, R77;
92_eei_decisions.md D33): one relation, which each operation of an instruction extends by a lemma of its own, and
the case analysis of the instructions over those lemmas. -/

namespace Sys2Proof.Machine

/-- What an instruction leaves alone or only extends, whatever it does to the registers: `BusKeeps` without the
stack pointers, the flags and the program counter. -/
structure StepKeeps (s t : State) : Prop where
  slots : t.slots = s.slots
  dmaFuel : t.dmaFuel = s.dmaFuel
  trace : ∃ more, t.busTrace = s.busTrace ++ more
  wf : s.ram.wf = true → t.ram.wf = true
  source : (∀ slot, s.lastDmaSource = some slot → present slot s = true) →
    ∀ slot, t.lastDmaSource = some slot → present slot t = true

theorem BusKeeps.stepKeeps {s t : State} (h : BusKeeps s t) : StepKeeps s t :=
  ⟨h.slots, h.dmaFuel, h.trace, h.wf, h.source⟩

namespace StepKeeps

variable {s t u : State}

theorem refl (s : State) : StepKeeps s s := (BusKeeps.refl s).stepKeeps

theorem trans (h : StepKeeps s t) (h' : StepKeeps t u) : StepKeeps s u where
  slots := h'.slots.trans h.slots
  dmaFuel := h'.dmaFuel.trans h.dmaFuel
  trace := by
    obtain ⟨x, hx⟩ := h.trace
    obtain ⟨y, hy⟩ := h'.trace
    exact ⟨x ++ y, by rw [hy, hx, List.append_assoc]⟩
  wf := h'.wf ∘ h.wf
  source := h'.source ∘ h.source

/-- The invariant is made of what a step keeps. -/
theorem inv (h : StepKeeps s t) (hs : Inv s) : Inv t := by
  obtain ⟨hwf, hzero, hsource⟩ := hs
  exact ⟨h.wf hwf, (present_congr h.slots).trans hzero, h.source hsource⟩

/-- An update of RAM and the registers alone keeps as much as it keeps of RAM's form. -/
theorem of_sameBus (h : StepKeeps s t) (hslots : u.slots = t.slots) (hfuel : u.dmaFuel = t.dmaFuel)
    (htrace : u.busTrace = t.busTrace) (hsource : u.lastDmaSource = t.lastDmaSource)
    (hram : t.ram.wf = true → u.ram.wf = true) : StepKeeps s u :=
  h.trans ⟨hslots, hfuel, ⟨[], by rw [htrace, List.append_nil]⟩, hram,
    fun ht slot hu => (present_congr hslots).trans (ht slot (hsource ▸ hu))⟩

/-! ## One lemma per operation -/

theorem setPc {a : Addr} (h : StepKeeps s t) : StepKeeps s (setPc a t) := h.of_sameBus rfl rfl rfl rfl id

theorem setCarry {c : Bool} (h : StepKeeps s t) : StepKeeps s (setCarry c t) :=
  h.of_sameBus rfl rfl rfl rfl id

theorem raise {c : Cause} (h : StepKeeps s t) : StepKeeps s (raise c t) := h.of_sameBus rfl rfl rfl rfl id

theorem pop {w : Width} {st : StackId} (h : StepKeeps s t) : StepKeeps s (pop w st t).2 := by
  rw [pop_eq]
  exact h.of_sameBus (by simp) (by simp) (by simp) (by simp) (by simp)

theorem push {w : Width} {st : StackId} {v : BitVec w.bits} (h : StepKeeps s t) :
    StepKeeps s (push w st v t) :=
  h.of_sameBus (by simp) (by simp) (by simp) (by simp) (push_keeps w st v t).2

theorem poke {w : Width} {st : StackId} {o : Nat} {v : BitVec w.bits} (h : StepKeeps s t) :
    StepKeeps s (poke w st o v t) :=
  h.of_sameBus (by simp) (by simp) (by simp) (by simp) (poke_keeps w st o v t).2

theorem take {m : Mode} {w : Width} {cur : Nat} (h : StepKeeps s t) : StepKeeps s (take m w cur t).2 := by
  unfold Machine.take
  split
  · exact h
  · exact h.pop

theorem takePair {m : Mode} (h : StepKeeps s t) : StepKeeps s (takePair m t).rest := h.take.take

theorem target {m : Mode} (h : StepKeeps s t) : StepKeeps s (target m t).2 := h.take

theorem memRead {w : Width} {a : Addr} (h : StepKeeps s t) : StepKeeps s (memRead w a t).2 :=
  h.trans (memRead_keeps w a t).1.stepKeeps

theorem loadOp {k : Addressing} {m : Mode} (h : StepKeeps s t) : StepKeeps s (loadOp k m t) :=
  h.take.memRead.push

theorem returnWithFlags (h : StepKeeps s t) : StepKeeps s (returnWithFlags t) := by
  have hpops : StepKeeps s (pop16 .ret (pop8 .working t).2).2 :=
    (h.pop (w := .one) (st := .working)).pop (w := .two) (st := .ret)
  exact hpops.of_sameBus rfl rfl rfl rfl id

/-! ## The end of an instruction -/

/-- What a completed instruction keeps. -/
theorem complete (h : StepKeeps s t) : ∀ u, complete t = .next u → StepKeeps s u := by
  rintro _ ⟨⟩
  exact h.setPc

/-- What a store keeps, whether its write was done or halted the machine. -/
theorem complete_memWrite {w : Width} {a : Addr} {v : BitVec w.bits} (h : StepKeeps s t) :
    ∀ u, (memWrite w a v t).complete = .next u → StepKeeps s u := by
  have hw := memWrite_keeps w a v t
  cases hf : Machine.memWrite w a v t with
  | done t' =>
    rw [hf] at hw
    exact (h.trans hw.1.stepKeeps).complete
  | halted t' =>
    rw [hf] at hw
    rintro _ ⟨⟩
    exact h.trans hw.1.stepKeeps
  | stuck => rintro _ ⟨⟩

theorem complete_storeOp {k : Addressing} {m : Mode} (h : StepKeeps s t) :
    ∀ u, (storeOp k m t).complete = .next u → StepKeeps s u := h.take.take.complete_memWrite

end StepKeeps

/-! ## The instructions -/

theorem jcnOp_stepKeeps (m : Mode) (s : State) : StepKeeps s (jcnOp m s) := by
  have htaken := (StepKeeps.refl s).target (m := m) |>.take (m := m) (w := .one) (cur := m.width.bytes)
  unfold jcnOp
  dsimp only
  split
  · exact htaken.setPc
  · exact htaken

theorem dvmOp_stepKeeps (m : Mode) (s : State) : ∀ t, dvmOp m s = .next t → StepKeeps s t := by
  unfold dvmOp
  split
  · rintro _ ⟨⟩
    exact (StepKeeps.refl s).raise
  · exact (StepKeeps.refl s).takePair.push.push.complete

theorem exec_form_stepKeeps {op : BaseOp} {m : Mode} (h : wellFormedForm op m = true) (s : State) :
    ∀ t, exec (form op m) s = .next t → StepKeeps s t := by
  have hs := StepKeeps.refl s
  cases op with
  | pop => rw [exec_form_pop m s h]; exact hs.take.complete
  | swp => rw [exec_form_swp]; exact hs.takePair.push.push.complete
  | rot => rw [exec_form_rot]; exact hs.takePair.take.push.push.push.complete
  | dup => rw [exec_form_dup]; exact hs.take.push.push.complete
  | ovr => rw [exec_form_ovr]; exact hs.takePair.push.push.push.complete
  | equ => rw [exec_form_equ]; exact (hs.takePair.push (w := .one)).complete
  | gth => rw [exec_form_gth]; exact (hs.takePair.push (w := .one)).complete
  | jmp => rw [exec_form_jmp]; exact hs.target.setPc.complete
  | jcn => rw [exec_form_jcn]; exact (jcnOp_stepKeeps m s).complete
  | jsr => rw [exec_form_jsr]; exact (hs.target.push (w := .two)).setPc.complete
  | sth => rw [exec_form_sth]; exact hs.take.push.complete
  | ldz => rw [exec_form_ldz]; exact hs.loadOp.complete
  | stz => rw [exec_form_stz]; exact hs.complete_storeOp
  | ldr => rw [exec_form_ldr]; exact hs.loadOp.complete
  | str => rw [exec_form_str]; exact hs.complete_storeOp
  | lda => rw [exec_form_lda]; exact hs.loadOp.complete
  | sta => rw [exec_form_sta]; exact hs.complete_storeOp
  | pic => rw [exec_form_pic]; exact hs.take.push.complete
  | put => rw [exec_form_put]; exact hs.take.take.poke.complete
  | adc => rw [exec_form_adc]; exact hs.takePair.push.setCarry.complete
  | sbc => rw [exec_form_sbc]; exact hs.takePair.push.setCarry.complete
  | mul => rw [exec_form_mul]; exact hs.takePair.push.complete
  | dvm => rw [exec_form_dvm]; exact dvmOp_stepKeeps m s
  | and => rw [exec_form_and]; exact hs.takePair.push.complete
  | ior => rw [exec_form_ior]; exact hs.takePair.push.complete
  | xor => rw [exec_form_xor]; exact hs.takePair.push.complete
  | sft => rw [exec_form_sft]; exact hs.take.take.push.complete

theorem exec_stepKeeps (i : Instr) (s : State) : ∀ t, exec i s = .next t → StepKeeps s t := by
  have hs := StepKeeps.refl s
  rcases instr_cases i with
    ⟨st, w, imm, rfl⟩ | rfl | rfl | rfl | rfl | rfl | ⟨op, m, rfl⟩ | ⟨op, m, h, rfl⟩
  · rw [exec_litForm]
    exact hs.push.setPc.complete
  · exact hs.complete
  · exact hs.setCarry.complete
  · exact hs.setCarry.complete
  · exact (hs.push (w := .one)).complete
  · exact hs.returnWithFlags.complete
  · rw [exec_reservedForm]
    exact hs.complete
  · exact exec_form_stepKeeps h s

/-- What every step keeps, from every state and whatever the devices answer. -/
theorem step_stepKeeps {s t : State} (h : step s = .next t) : StepKeeps s t := by
  by_cases hr : s.status = .running
  · rw [step_running hr] at h
    exact (fetch_keeps s).1.stepKeeps.trans (exec_stepKeeps _ _ t h)
  · rw [step_stopped hr] at h
    cases h
    exact StepKeeps.refl s

/-- Settles O49: the three parts of the invariant are among what every step keeps. -/
theorem stepKeepsTheInvariant : Obligations.StepKeepsTheInvariant :=
  fun _ _ hs h => (step_stepKeeps h).inv hs

/-- Settles O55: the slot table, the fuel and the trace are three more of them. -/
theorem slotTableStaysAndTraceGrows : Obligations.SlotTableStaysAndTraceGrows :=
  fun _ _ h => ⟨(step_stepKeeps h).slots, (step_stepKeeps h).dmaFuel, (step_stepKeeps h).trace⟩

end Sys2Proof.Machine
end

section
/-! RAM in canonical form is extensional (10_state.md R27): the list is read off the bytes, cell by cell from the
lowest address on. -/

namespace Sys2Proof.Machine

@[simp] theorem Memory.read_cons_same (a : Nat) (v : Byte) (m : Memory) :
    Memory.read ((a, v) :: m) a = v := by
  simp [Memory.read]

theorem Memory.read_cons_of_ne {a b : Nat} (h : b ≠ a) (v : Byte) (m : Memory) :
    Memory.read ((b, v) :: m) a = m.read a := by
  simp [Memory.read, h]

theorem Memory.wfFrom_cons {lo b : Nat} {v : Byte} {m : Memory} (h : Memory.wfFrom lo ((b, v) :: m) = true) :
    lo ≤ b ∧ v ≠ Config.ramDefault ∧ Memory.wfFrom (b + 1) m = true := by
  simp only [Memory.wfFrom, Bool.and_eq_true, decide_eq_true_eq] at h
  obtain ⟨⟨⟨hlo, -⟩, hv⟩, hm⟩ := h
  exact ⟨hlo, hv, hm⟩

/-- The first cell's own address is the greatest bound a memory keeps. -/
theorem Memory.wfFrom_head {lo b : Nat} {v : Byte} {m : Memory} (h : Memory.wfFrom lo ((b, v) :: m) = true) :
    Memory.wfFrom b ((b, v) :: m) = true := by
  simp only [Memory.wfFrom, Bool.and_eq_true, decide_eq_true_eq] at h ⊢
  obtain ⟨⟨⟨-, hb⟩, hv⟩, hm⟩ := h
  exact ⟨⟨⟨le_refl b, hb⟩, hv⟩, hm⟩

/-- No cell stands below the bound of the canonical form. -/
theorem Memory.read_of_lt {m : Memory} {lo a : Nat} (hm : Memory.wfFrom lo m = true) (ha : a < lo) :
    m.read a = Config.ramDefault := by
  induction m generalizing lo with
  | nil => rfl
  | cons c rest ih =>
    obtain ⟨b, v⟩ := c
    obtain ⟨hlo, -, hrest⟩ := Memory.wfFrom_cons hm
    rw [Memory.read_cons_of_ne (by omega)]
    exact ih hrest (by omega)

/-- The first cell is seen in the bytes: a memory that reads alike has a cell that low. -/
theorem Memory.le_of_read_cons_eq {b lo : Nat} {v : Byte} {rest m : Memory} (hv : v ≠ Config.ramDefault)
    (hm : Memory.wfFrom lo m = true) (h : ∀ a, Memory.read ((b, v) :: rest) a = m.read a) : lo ≤ b := by
  by_contra hlt
  have hread := h b
  rw [Memory.read_cons_same, Memory.read_of_lt hm (Nat.lt_of_not_le hlt)] at hread
  exact hv hread

/-- What stands after a common first cell reads alike too: at the cell's address, and nowhere else, the cell hid
it, and there it holds nothing. -/
theorem Memory.read_tail_eq {b : Nat} {v v' : Byte} {m m' : Memory} (hm : Memory.wfFrom (b + 1) m = true)
    (hm' : Memory.wfFrom (b + 1) m' = true)
    (h : ∀ a, Memory.read ((b, v) :: m) a = Memory.read ((b, v') :: m') a) (a : Nat) :
    m.read a = m'.read a := by
  by_cases hab : b = a
  · rw [Memory.read_of_lt hm (by omega), Memory.read_of_lt hm' (by omega)]
  · have ha := h a
    rwa [Memory.read_cons_of_ne hab, Memory.read_cons_of_ne hab] at ha

theorem Memory.eq_of_read_eq {m m' : Memory} {lo lo' : Nat} (hm : Memory.wfFrom lo m = true)
    (hm' : Memory.wfFrom lo' m' = true) (h : ∀ a, m.read a = m'.read a) : m = m' := by
  induction m generalizing m' lo lo' with
  | nil =>
    cases m' with
    | nil => rfl
    | cons c' rest' =>
      obtain ⟨-, hv', -⟩ := Memory.wfFrom_cons hm'
      have := Memory.le_of_read_cons_eq (lo := c'.1 + 1) hv' rfl fun a => (h a).symm
      omega
  | cons c rest ih =>
    obtain ⟨b, v⟩ := c
    obtain ⟨-, hv, hrest⟩ := Memory.wfFrom_cons hm
    cases m' with
    | nil =>
      have := Memory.le_of_read_cons_eq (lo := b + 1) hv rfl h
      omega
    | cons c' rest' =>
      obtain ⟨b', v'⟩ := c'
      obtain ⟨-, hv', hrest'⟩ := Memory.wfFrom_cons hm'
      obtain rfl : b = b' := Nat.le_antisymm
        (Memory.le_of_read_cons_eq hv' (Memory.wfFrom_head hm) fun a => (h a).symm)
        (Memory.le_of_read_cons_eq hv (Memory.wfFrom_head hm') h)
      obtain rfl : v = v' := by simpa using h b
      rw [ih hrest hrest' (Memory.read_tail_eq hrest hrest' h)]

/-- Settles O11: the canonical form is the bound 0. -/
theorem memoriesThatReadAlikeAreEqual : Obligations.MemoriesThatReadAlikeAreEqual :=
  fun _ _ hm hm' h => Memory.eq_of_read_eq hm hm' h

end Sys2Proof.Machine
end

section
/-! The stack as a last-in first-out store of one page (10_state.md R22, R23, R31 to R35): what a push leaves in
RAM, the pop after it, and any number of pushes and pops that fit the page. -/

namespace Sys2Proof.Machine

/-! ## One push -/

@[simp] theorem setSp_sp (st : StackId) (s : State) : setSp st (sp st s) s = s := by cases st <;> rfl

@[simp] theorem sp_ram_update (st : StackId) (r : Memory) (s : State) :
    sp st { s with ram := r } = sp st s := by cases st <;> rfl

theorem cellAddr_toNat_ne {st : StackId} {i j : Byte} (h : i ≠ j) :
    (cellAddr st i).toNat ≠ (cellAddr st j).toNat :=
  fun he => h (cellAddr_inj he)

/-- A push writes its own cells only. -/
theorem push_ram_read_of_not_pushedCell {w : Width} {st : StackId} {v : BitVec w.bits} {s : State} {b : Nat}
    (h : ¬ pushedCell st (sp st s) w.bytes b) : (push w st v s).ram.read b = s.ram.read b := by
  have hne : ∀ k < w.bytes, (cellAddr st (sp st s - BitVec.ofNat 8 k)).toNat ≠ b :=
    fun k hk he => h ⟨k, hk, he.symm⟩
  have hfirst := hne 0
  rw [BitVec.sub_zero] at hfirst
  rw [push_ram]
  cases w with
  | one => exact Memory.read_write_of_ne _ _ (hfirst (by decide))
  | two =>
    exact (Memory.read_write_of_ne _ _ (hne 1 (by decide))).trans
      (Memory.read_write_of_ne _ _ (hfirst (by decide)))

/-- The low byte of a two-byte push stands at the pointer. -/
theorem push16_ram_read_low (st : StackId) (v : Addr) (s : State) :
    (push16 st v s).ram.read (cellAddr st (sp st s)).toNat = loByte v := by
  have hram := push_ram .two st v s
  dsimp only [push] at hram
  have hne : sp st s - 1 ≠ sp st s := by bv_omega
  rw [hram, Memory.read_write_of_ne _ _ (cellAddr_toNat_ne hne), Memory.read_write_same]

/-- The high byte stands one below, so that it is topmost. -/
theorem push16_ram_read_high (st : StackId) (v : Addr) (s : State) :
    (push16 st v s).ram.read (cellAddr st (sp st s - 1)).toNat = hiByte v := by
  have hram := push_ram .two st v s
  dsimp only [push] at hram
  rw [hram, Memory.read_write_same]

/-! ## A pop after a push -/

/-- The top of the stack after a push is the pushed value. -/
theorem peek_push (w : Width) (st : StackId) (v : BitVec w.bits) (s : State) :
    peek w st 0 (push w st v s) = v := by
  cases w with
  | one =>
    have hi : sp st s - BitVec.ofNat 8 1 + BitVec.ofNat 8 0 + 1 = sp st s := by bv_omega
    simp only [peek, peek8, peekIndex, sp_push, ramRead, Width.bytes, hi]
    simp [push]
  | two =>
    have hhi : sp st s - BitVec.ofNat 8 2 + BitVec.ofNat 8 0 + 1 = sp st s - 1 := by bv_omega
    have hlo : sp st s - BitVec.ofNat 8 2 + BitVec.ofNat 8 (0 + 1) + 1 = sp st s := by bv_omega
    simp only [peek, peek16, peek8, peekIndex, sp_push, ramRead, Width.bytes, hhi, hlo]
    simp only [push, push16_ram_read_low, push16_ram_read_high, hiLo_hiByte_loByte]

/-- A pop after a push of the same width gives the value back and leaves the pointer where it was. -/
theorem pop_push (w : Width) (st : StackId) (v : BitVec w.bits) (s : State) :
    pop w st (push w st v s) = (v, { s with ram := (push w st v s).ram }) := by
  rw [pop_eq, peek_push, sp_push, BitVec.sub_add_cancel, (push_keeps w st v s).1, setSp_setSp, setSp_ram]
  have h := setSp_sp st { s with ram := (push w st v s).ram }
  rw [sp_ram_update] at h
  rw [h]

/-- Settles O14: what a push writes, what it leaves, and the pop after it. -/
theorem pushThenPop : Obligations.PushThenPop := by
  unfold Obligations.PushThenPop
  intro st s
  refine ⟨fun v => ⟨?_, (push_keeps .one st v s).1, fun b hb => ?_⟩,
    fun v => ⟨push16_ram_read_low st v s, push16_ram_read_high st v s, (push_keeps .two st v s).1,
      fun b hb => ?_⟩,
    fun w v => pop_push w st v s⟩
  · rw [push8_ram, Memory.read_write_same]
  · exact push_ram_read_of_not_pushedCell (w := .one) hb
  · exact push_ram_read_of_not_pushedCell (w := .two) hb

/-! ## Many pushes and pops -/

theorem pushAll_append (st : StackId) (vs ws : List Byte) (s : State) :
    pushAll st (vs ++ ws) s = pushAll st ws (pushAll st vs s) := by
  induction vs generalizing s with
  | nil => rfl
  | cons v vs ih => exact ih (push8 st v s)

/-- Each push moves the pointer down by one, modulo the page. -/
theorem sp_pushAll (st : StackId) (vs : List Byte) (s : State) :
    sp st (pushAll st vs s) = sp st s - BitVec.ofNat 8 vs.length := by
  induction vs generalizing s with
  | nil => simp [pushAll]
  | cons v vs ih =>
    have h8 : sp st (push8 st v s) = sp st s - BitVec.ofNat 8 1 := sp_push .one st v s
    rw [pushAll, ih, h8, List.length_cons, BitVec.ofNat_add]
    bv_omega

/-- Pops are peeks at rising offsets, and one move of the pointer past them. -/
theorem popAll_eq (st : StackId) (n : Nat) (s : State) :
    popAll st n s = ((List.range n).map fun k => peek8 st k s, setSp st (sp st s + BitVec.ofNat 8 n) s) := by
  induction n generalizing s with
  | zero => simp [popAll]
  | succ n ih =>
    have hdeeper : ∀ k, peek8 st k (setSp st (sp st s + BitVec.ofNat 8 1) s) = peek8 st (k + 1) s :=
      fun k => (peek_setSp .one st 1 k s).trans (by rw [Nat.add_comm]; rfl)
    simp only [popAll, pop8_eq, ih, hdeeper, sp_setSp_same, setSp_setSp, List.range_succ_eq_map,
      List.map_cons, List.map_map, BitVec.add_assoc, ← BitVec.ofNat_add, Nat.add_comm 1 n]
    rfl

/-- What was on the stack is one cell deeper after a push, but for the cell that a full page has overwritten. -/
theorem peek8_push8_succ (st : StackId) (v : Byte) (s : State) {k : Nat} (hk : k < 255) :
    peek8 st (k + 1) (push8 st v s) = peek8 st k s := by
  have h8 : sp st (push8 st v s) = sp st s - BitVec.ofNat 8 1 := sp_push .one st v s
  have hi : sp st s - BitVec.ofNat 8 1 + BitVec.ofNat 8 (k + 1) + 1 = sp st s + BitVec.ofNat 8 k + 1 := by
    bv_omega
  have hne : sp st s ≠ sp st s + BitVec.ofNat 8 k + 1 := by bv_omega
  simp only [peek8, peekIndex, h8, hi, ramRead, push8_ram]
  exact Memory.read_write_of_ne _ _ (cellAddr_toNat_ne hne)

/-- Bytes pushed are the bytes on the stack, the last one topmost, as long as they fit the page. -/
theorem map_peek8_pushAll (st : StackId) (vs : List Byte) (s : State) (h : vs.length ≤ 256) :
    ((List.range vs.length).map fun k => peek8 st k (pushAll st vs s)) = vs.reverse := by
  induction vs using List.reverseRecOn with
  | nil => rfl
  | append_singleton vs v ih =>
    rw [List.length_append, List.length_singleton] at h
    have htop : peek8 st 0 (push8 st v (pushAll st vs s)) = v := peek_push .one st v _
    have hrest : ((List.range vs.length).map fun k => peek8 st (k + 1) (push8 st v (pushAll st vs s))) =
        vs.reverse := by
      rw [← ih (by omega)]
      refine List.map_congr_left fun k hk => peek8_push8_succ st v _ ?_
      have := List.mem_range.mp hk
      omega
    rw [pushAll_append, List.length_append, List.length_singleton, List.range_succ_eq_map, List.map_cons,
      List.map_map, List.reverse_append, List.reverse_singleton, List.singleton_append]
    exact congrArg₂ List.cons htop hrest

/-- Settles O15: 256 moves by one are no move, and 256 bytes just fit the page. -/
theorem twoHundredFiftySixPushesWrap : Obligations.TwoHundredFiftySixPushesWrap := by
  unfold Obligations.TwoHundredFiftySixPushesWrap
  intro st vs s h
  have wrap : BitVec.ofNat 8 256 = 0#8 := by decide
  have hsp : sp st (pushAll st vs s) = sp st s := by
    rw [sp_pushAll, h, wrap, BitVec.sub_zero]
  refine ⟨hsp, ?_, ?_⟩
  · rw [popAll_eq, ← h]
    exact map_peek8_pushAll st vs s h.le
  · rw [popAll_eq, sp_setSp_same, hsp, wrap, BitVec.add_zero]

end Sys2Proof.Machine
end

section
/-! Reset and construction (10_state.md R40; 70_reset_and_hazards.md R250 to R255): what an accepted construction
answers, its RAM and its slot table, and the values of the reset state. -/

namespace Sys2Proof.Machine

/-- Construction answers a machine only for a configuration with no error, and then the one of R253 to R255. -/
theorem construct_ok {P : DeviceKinds} {image : List Byte} {ps : List Placement} {s : State}
    (h : construct P image ps = .ok s) :
    configErrors P image ps = [] ∧
      s = { State.reset with
        slots := slotTable P ps
        ram := loadImage Config.loadOffset.toNat image [] } := by
  unfold construct at h
  split at h
  · next hc =>
    cases h
    exact ⟨hc, rfl⟩
  · cases h

theorem errorIf_eq_nil {c : Bool} {e : ConfigError} : errorIf c e = [] ↔ c = false := by
  cases c <;> simp [errorIf]

/-- An accepted image fits below the device region (70_reset_and_hazards.md R254). -/
theorem image_fits {P : DeviceKinds} {image : List Byte} {ps : List Placement}
    (h : configErrors P image ps = []) :
    Config.loadOffset.toNat + image.length ≤ Config.devBase.toNat := by
  unfold configErrors at h
  obtain ⟨-, hsize⟩ := List.append_eq_nil_iff.mp h
  rw [errorIf_eq_nil, decide_eq_false_iff_not, Nat.not_lt, imageCapacity] at hsize
  have hoffset : Config.loadOffset.toNat ≤ Config.devBase.toNat := by decide
  omega

/-- An image that stays below the device region keeps the canonical form of RAM. -/
theorem loadImage_wf {image : List Byte} {a : Nat} {m : Memory}
    (hfits : a + image.length ≤ Config.devBase.toNat) (hm : m.wf = true) :
    (loadImage a image m).wf = true := by
  induction image generalizing a m with
  | nil => exact hm
  | cons b rest ih =>
    rw [List.length_cons] at hfits
    exact ih (by omega) (Memory.wf_write b hm (by omega))

/-! ## The slot table -/

/-- A placement fills a slot and empties none. -/
theorem placeDevice_keeps_present {t : Vector (Option KindId) 16} {slot : Slot}
    (h : (t.get slot).isSome = true) (p : Placement) : ((placeDevice t p).get slot).isSome = true := by
  unfold placeDevice
  split
  · next hp =>
    by_cases hs : p.slot = slot.val
    · simp [Vector.get_eq_getElem, hs]
    · simpa [Vector.get_eq_getElem, Vector.getElem_set, hs] using h
  · exact h

theorem foldl_placeDevice_keeps_present {t : Vector (Option KindId) 16} {slot : Slot}
    (h : (t.get slot).isSome = true) (ps : List Placement) :
    ((ps.foldl placeDevice t).get slot).isSome = true := by
  induction ps generalizing t with
  | nil => exact h
  | cons p rest ih => exact ih (placeDevice_keeps_present h p)

/-- Slot 0 is populated before the first placement, by the mandatory device, and so after the last one. -/
theorem slotTable_zero_present (P : DeviceKinds) (ps : List Placement) :
    ((slotTable P ps).get 0).isSome = true :=
  foldl_placeDevice_keeps_present rfl ps

/-! ## The reset state -/

theorem reset_inv : Inv State.reset := ⟨reset_ram_wf, rfl, fun _ h => nomatch h⟩

theorem construct_inv {P : DeviceKinds} {image : List Byte} {ps : List Placement} {s : State}
    (h : construct P image ps = .ok s) : Inv s := by
  obtain ⟨hc, rfl⟩ := construct_ok h
  exact ⟨loadImage_wf (image_fits hc) Memory.wf_nil, slotTable_zero_present P ps, fun _ h => nomatch h⟩

/-- Settles O50: the image and the placements keep the invariant, and the rest is reset's. -/
theorem constructionEstablishesTheInvariant : Obligations.ConstructionEstablishesTheInvariant := by
  refine ⟨reset_inv, fun P image ps s h => ⟨construct_inv h, ?_⟩⟩
  obtain ⟨-, rfl⟩ := construct_ok h
  rfl

/-- Only the mandatory device is there at reset. -/
theorem present_reset_iff (slot : Slot) : present slot State.reset = true ↔ slot = 0 := by
  revert slot
  decide

/-- An empty image and no placements have no error. -/
theorem construct_nil (P : DeviceKinds) (h : P.mandatory = Config.mandatoryKind) :
    construct P [] [] = .ok State.reset := by
  have hslots : slotTable P [] = State.reset.slots := by
    rw [slotTable, h]
    rfl
  have hok : construct P [] [] = .ok { State.reset with slots := slotTable P [], ram := [] } := rfl
  rw [hok, hslots]
  rfl

/-- Settles O56: construction sets the slots and RAM alone, and every other value is reset's. -/
theorem resetValues : Obligations.ResetValues := by
  refine ⟨⟨rfl, rfl, rfl, rfl, rfl, rfl, Memory.read_nil, present_reset_iff⟩, construct_nil, ?_⟩
  intro P image ps s h
  obtain ⟨-, rfl⟩ := construct_ok h
  exact ⟨rfl, rfl, rfl, rfl, rfl, rfl⟩

end Sys2Proof.Machine
end

section
/-! The flags (10_state.md R24, R25). One idea serves both statements: an operation that reads no flag commutes with
an exchange of the flag byte. So it keeps the flags, which is seen by putting its own byte in, and it does the same
whatever they are. The instructions that write C do so to a result that depends on the flags through C alone. -/

namespace Sys2Proof.Machine

/-- The state with another flag byte. -/
def withFlags (f : Byte) (s : State) : State := { s with flags := f }

/-- The next state, if there is one, with another flag byte. -/
def answerWithFlags (f : Byte) (r : Answer) : Answer :=
  match r with
  | .next s => .next (withFlags f s)
  | .fault e => .fault e
  | .refused e => .refused e

/-- The same for the end of a write. -/
def Flow.withFlags (f : Byte) (r : Flow) : Flow :=
  match r with
  | .done s => .done (Machine.withFlags f s)
  | .halted s => .halted (Machine.withFlags f s)
  | .stuck => .stuck

section Operations

variable (f : Byte) (s : State)

@[simp] theorem withFlags_flags : (withFlags f s).flags = f := rfl

@[simp] theorem withFlags_self : withFlags s.flags s = s := rfl

@[simp] theorem withFlags_pc : (withFlags f s).pc = s.pc := rfl

@[simp] theorem withFlags_status : (withFlags f s).status = s.status := rfl

@[simp] theorem withFlags_lastDmaSource : (withFlags f s).lastDmaSource = s.lastDmaSource := rfl

@[simp] theorem present_withFlags (slot : Slot) : present slot (withFlags f s) = present slot s :=
  present_congr rfl

@[simp] theorem writeAnswer_withFlags (slot : Slot) (port : Port) (v : Byte) :
    writeAnswer slot port v (withFlags f s) = writeAnswer slot port v s := rfl

@[simp] theorem withFlags_dmaFuel : (withFlags f s).dmaFuel = s.dmaFuel := rfl

/-! ## The operations of an instruction -/

@[simp] theorem peek_withFlags (w : Width) (st : StackId) (o : Nat) :
    peek w st o (withFlags f s) = peek w st o s := by
  apply peek_congr
  · rfl
  · cases st <;> rfl

@[simp] theorem pop_withFlags (w : Width) (st : StackId) :
    pop w st (withFlags f s) = ((pop w st s).1, withFlags f (pop w st s).2) := by
  cases w <;> cases st <;> rfl

@[simp] theorem push_withFlags (w : Width) (st : StackId) (v : BitVec w.bits) :
    push w st v (withFlags f s) = withFlags f (push w st v s) := by
  cases w <;> cases st <;> rfl

@[simp] theorem push8_withFlags (st : StackId) (v : Byte) :
    push8 st v (withFlags f s) = withFlags f (push8 st v s) := push_withFlags f s .one st v

@[simp] theorem push16_withFlags (st : StackId) (v : Addr) :
    push16 st v (withFlags f s) = withFlags f (push16 st v s) := push_withFlags f s .two st v

@[simp] theorem poke_withFlags (w : Width) (st : StackId) (o : Nat) (v : BitVec w.bits) :
    poke w st o v (withFlags f s) = withFlags f (poke w st o v s) := by
  cases w <;> cases st <;> rfl

@[simp] theorem setPc_withFlags (a : Addr) : setPc a (withFlags f s) = withFlags f (setPc a s) := rfl

@[simp] theorem jump_withFlags (t : Addr) : jump t (withFlags f s) = withFlags f (jump t s) := rfl

@[simp] theorem raise_withFlags (c : Cause) : raise c (withFlags f s) = withFlags f (raise c s) := rfl

@[simp] theorem take_withFlags (m : Mode) (w : Width) (cur : Nat) :
    take m w cur (withFlags f s) = ((take m w cur s).1, withFlags f (take m w cur s).2) := by
  unfold take
  split <;> simp

@[simp] theorem takePair_withFlags (m : Mode) :
    takePair m (withFlags f s) =
      ⟨(takePair m s).a, (takePair m s).b, withFlags f (takePair m s).rest⟩ := by
  simp [takePair]

@[simp] theorem effectiveAddr_withFlags (k : Addressing) (o : BitVec k.operand.bits) :
    effectiveAddr k o (withFlags f s) = effectiveAddr k o s := by
  cases k <;> rfl

@[simp] theorem target_withFlags (m : Mode) :
    target m (withFlags f s) = ((target m s).1, withFlags f (target m s).2) := by
  obtain ⟨k, st, w⟩ := m
  cases w <;> simp [target, jumpAddr, relative]

/-! ## The router's reads -/

@[simp] theorem read8_withFlags (a : Addr) :
    read8 a (withFlags f s) = ((read8 a s).1, withFlags f (read8 a s).2) := by
  unfold read8 busRead
  simp only [present_withFlags]
  split
  · rfl
  · split <;> rfl

@[simp] theorem memRead_withFlags (w : Width) (a : Addr) :
    memRead w a (withFlags f s) = ((memRead w a s).1, withFlags f (memRead w a s).2) := by
  cases w <;> simp [memRead, read16]

@[simp] theorem readBytes_withFlags (a : Addr) (len : Nat) :
    readBytes a len (withFlags f s) = ((readBytes a len s).1, withFlags f (readBytes a len s).2) := by
  induction len generalizing a s with
  | zero => rfl
  | succ n ih => simp [readBytes, ih]

theorem fetch_withFlags : fetch (withFlags f s) = ((fetch s).1, withFlags f (fetch s).2) := by
  simp only [fetch, fetchLiteral, read8_withFlags, memRead_withFlags, withFlags_pc]
  split <;> rfl

end Operations

/-! ## The router's writes -/

theorem dmaDeliver_withFlags (f : Byte) (bytes : List Byte) (s : State) :
    dmaDeliver bytes (withFlags f s) = withFlags f (dmaDeliver bytes s) := by
  simp only [dmaDeliver, withFlags_lastDmaSource, present_withFlags]
  split
  · rfl
  · split <;> rfl

theorem busWrite_withFlags (f b v : Byte) (s : State) :
    busWrite b v (withFlags f s) = ((busWrite b v s).1, withFlags f (busWrite b v s).2) := by
  simp only [busWrite, present_withFlags, writeAnswer_withFlags]
  split
  · cases writeAnswer (busSlot b) (busPort b) v s <;> rfl
  · rfl

theorem Flow.andThen_withFlags {f : Byte} {k : State → Flow}
    (hk : ∀ s, k (Machine.withFlags f s) = (k s).withFlags f) (r : Flow) :
    (r.withFlags f).andThen k = (r.andThen k).withFlags f := by
  cases r with
  | done s => exact hk s
  | halted s => rfl
  | stuck => rfl

section Levels

variable {f : Byte} {w8 : Addr → Byte → State → Flow}
  (h : ∀ a v s, w8 a v (withFlags f s) = (w8 a v s).withFlags f)
include h

theorem applyD2m_withFlags (t : Addr) (bytes : List Byte) (s : State) :
    applyD2m w8 t bytes (withFlags f s) = (applyD2m w8 t bytes s).withFlags f := by
  induction bytes generalizing t s with
  | nil => rfl
  | cons b rest ih =>
    rw [applyD2m, applyD2m, h]
    exact Flow.andThen_withFlags (ih (t + 1)) (w8 t b s)

theorem applyResponse_withFlags (r : Response) (s : State) :
    applyResponse w8 r (withFlags f s) = (applyResponse w8 r s).withFlags f := by
  cases r with
  | none => rfl
  | devToMem t bytes => exact applyD2m_withFlags h t bytes s
  | memToDev t len =>
    simp only [applyResponse, applyM2d, readBytes_withFlags, dmaDeliver_withFlags, Flow.withFlags]
  | shutdown code => rfl

theorem write8With_withFlags (a : Addr) (v : Byte) (s : State) :
    write8With w8 a v (withFlags f s) = (write8With w8 a v s).withFlags f := by
  unfold write8With
  split
  · rfl
  · simp only [busWrite_withFlags]
    exact applyResponse_withFlags h _ _

end Levels

theorem write8Last_withFlags (f : Byte) (a : Addr) (v : Byte) (s : State) :
    write8Last a v (withFlags f s) = (write8Last a v s).withFlags f := by
  simp only [write8Last, present_withFlags]
  split
  · rfl
  · split <;> rfl

theorem write8_withFlags (f : Byte) (fuel : Nat) (a : Addr) (v : Byte) (s : State) :
    write8 fuel a v (withFlags f s) = (write8 fuel a v s).withFlags f := by
  induction fuel generalizing a v s with
  | zero => exact write8With_withFlags (write8Last_withFlags f) a v s
  | succ n ih => exact write8With_withFlags ih a v s

@[simp] theorem memWrite_withFlags (f : Byte) (w : Width) (a : Addr) (v : BitVec w.bits) (s : State) :
    memWrite w a v (withFlags f s) = (memWrite w a v s).withFlags f := by
  cases w with
  | one => exact write8_withFlags f _ a v s
  | two =>
    simp only [memWrite, write16, withFlags_dmaFuel, write8_withFlags]
    exact Flow.andThen_withFlags (write8_withFlags f _ (a + 1) (loByte v)) _

/-! ## Instructions that read no flag -/

@[simp] theorem complete_withFlags (f : Byte) (s : State) :
    complete (withFlags f s) = answerWithFlags f (complete s) := rfl

@[simp] theorem Flow.complete_withFlags (f : Byte) (r : Flow) :
    (r.withFlags f).complete = answerWithFlags f r.complete := by
  cases r <;> rfl

@[simp] theorem loadOp_withFlags (k : Addressing) (m : Mode) (f : Byte) (s : State) :
    loadOp k m (withFlags f s) = withFlags f (loadOp k m s) := by
  simp [loadOp]

@[simp] theorem storeOp_withFlags (k : Addressing) (m : Mode) (f : Byte) (s : State) :
    storeOp k m (withFlags f s) = (storeOp k m s).withFlags f := by
  simp [storeOp]

@[simp] theorem jcnOp_withFlags (m : Mode) (f : Byte) (s : State) :
    jcnOp m (withFlags f s) = withFlags f (jcnOp m s) := by
  simp only [jcnOp, target_withFlags, take_withFlags]
  split <;> rfl

@[simp] theorem dvmOp_withFlags (m : Mode) (f : Byte) (s : State) :
    dvmOp m (withFlags f s) = answerWithFlags f (dvmOp m s) := by
  simp only [dvmOp, peek_withFlags]
  split
  · rfl
  · simp

/-- An instruction that writes C and no other flag (10_state.md R25). -/
def writesCarry (i : Instr) : Prop := i = .sec ∨ i = .clc ∨ ∃ m, i = form .adc m ∨ i = form .sbc m

theorem exec_form_withFlags {op : BaseOp} {m : Mode} (h : wellFormedForm op m = true)
    (hc : ¬ writesCarry (form op m)) (f : Byte) (s : State) :
    exec (form op m) (withFlags f s) = answerWithFlags f (exec (form op m) s) := by
  cases op with
  | pop => simp [exec_form_pop m _ h, popOp]
  | swp => simp [exec_form_swp, swpOp]
  | rot => simp [exec_form_rot, rotOp]
  | dup => simp [exec_form_dup, dupOp]
  | ovr => simp [exec_form_ovr, ovrOp]
  | equ => simp [exec_form_equ, equOp]
  | gth => simp [exec_form_gth, gthOp]
  | jmp => simp [exec_form_jmp, jmpOp]
  | jcn => simp [exec_form_jcn]
  | jsr => simp [exec_form_jsr, jsrOp]
  | sth => simp [exec_form_sth, sthOp]
  | ldz => simp [exec_form_ldz]
  | stz => simp [exec_form_stz]
  | ldr => simp [exec_form_ldr]
  | str => simp [exec_form_str]
  | lda => simp [exec_form_lda]
  | sta => simp [exec_form_sta]
  | pic => simp [exec_form_pic, picOp]
  | put => simp [exec_form_put, putOp]
  | adc => exact absurd (.inr (.inr ⟨m, .inl rfl⟩)) hc
  | sbc => exact absurd (.inr (.inr ⟨m, .inr rfl⟩)) hc
  | mul => simp [exec_form_mul, mulOp]
  | dvm => simp [exec_form_dvm]
  | and => simp [exec_form_and, andOp]
  | ior => simp [exec_form_ior, iorOp]
  | xor => simp [exec_form_xor, xorOp]
  | sft => simp [exec_form_sft, sftOp]

/-- An instruction that writes no flag does the same whatever the flags are. -/
theorem exec_withFlags {i : Instr} (hrti : i ≠ .rti) (hc : ¬ writesCarry i) (f : Byte) (s : State) :
    exec i (withFlags f s) = answerWithFlags f (exec i s) := by
  rcases instr_cases i with
    ⟨st, w, imm, rfl⟩ | rfl | rfl | rfl | rfl | rfl | ⟨op, m, rfl⟩ | ⟨op, m, h, rfl⟩
  · simp [exec_litForm, pushLiteral]
  · rfl
  · exact absurd (.inl rfl) hc
  · exact absurd (.inr (.inl rfl)) hc
  · rfl
  · exact absurd rfl hrti
  · simp [exec_reservedForm]
  · exact exec_form_withFlags h hc f s

/-- Such an instruction keeps the flags: the exchange for the byte that is there changes nothing. -/
theorem exec_keeps_flags {i : Instr} {s t : State} (hrti : i ≠ .rti) (hc : ¬ writesCarry i)
    (h : exec i s = .next t) : t.flags = s.flags := by
  have hself := exec_withFlags hrti hc s.flags s
  rw [withFlags_self, h] at hself
  injection hself with ht
  rw [ht, withFlags_flags]

/-! ## Instructions that write C -/

theorem setCarry_getLsbD_zero (c : Bool) (s : State) : (setCarry c s).flags.getLsbD 0 = c := by
  cases c <;> simp [setCarry]

/-- ADC and SBC read the flags through C alone, and SEC and CLC not at all: whatever the other flag bits are, they
leave the same state with the same C in it. -/
theorem exec_writesCarry {i : Instr} (hc : writesCarry i) (s : State) :
    ∃ c u, ∀ f : Byte, f.getLsbD 0 = s.flags.getLsbD 0 →
      exec i (withFlags f s) = complete (setCarry c (withFlags f u)) := by
  have hcarry : ∀ {f : Byte}, f.getLsbD 0 = s.flags.getLsbD 0 → carryNat (withFlags f s) = carryNat s :=
    fun hf => congrArg Bool.toNat hf
  rcases hc with rfl | rfl | ⟨m, rfl | rfl⟩
  · exact ⟨true, s, fun _ _ => rfl⟩
  · exact ⟨false, s, fun _ _ => rfl⟩
  · refine ⟨sumCarry (takePair m s).a (takePair m s).b (carryNat s),
      push m.width m.stack (BitVec.ofNat _ (sumExact (takePair m s).a (takePair m s).b (carryNat s)))
        (takePair m s).rest, fun f hf => ?_⟩
    rw [exec_form_adc]
    simp only [adcOp, takePair_withFlags, push_withFlags, hcarry hf]
  · refine ⟨differenceCarry (takePair m s).a (takePair m s).b (carryNat s),
      push m.width m.stack (BitVec.ofInt _ (differenceExact (takePair m s).a (takePair m s).b (carryNat s)))
        (takePair m s).rest, fun f hf => ?_⟩
    rw [exec_form_sbc]
    simp only [sbcOp, takePair_withFlags, push_withFlags, hcarry hf]

/-! ## The statement about the instructions -/

/-- Settles O53: what writes no flag keeps them all, and what writes C keeps bits 7:1. -/
theorem flagsChangeOnlyAsListed : Obligations.FlagsChangeOnlyAsListed := by
  unfold Obligations.FlagsChangeOnlyAsListed
  intro i s t h
  constructor
  · intro hne
    by_contra hlist
    simp only [not_or] at hlist
    obtain ⟨hsec, hclc, hrti, hform⟩ := hlist
    have hc : ¬ writesCarry i := by
      rintro (hi | hi | hi)
      · exact hsec hi
      · exact hclc hi
      · exact hform hi
    exact hne (exec_keeps_flags hrti hc h)
  · intro hrti k hk
    by_cases hc : writesCarry i
    · obtain ⟨c, u, hexec⟩ := exec_writesCarry hc s
      have hself := hexec s.flags rfl
      rw [withFlags_self, h] at hself
      injection hself with ht
      rw [ht]
      exact setCarry_getLsbD c (withFlags s.flags u) hk
    · rw [exec_keeps_flags hrti hc h]

/-! ## The step -/

/-- An instruction tells two flag bytes with the same C apart only in the flags it leaves, and there not in C. -/
theorem exec_withFlags_of_same_carry {i : Instr} {s t : State} {f : Byte}
    (hf : f.getLsbD 0 = s.flags.getLsbD 0) (h : exec i s = .next t) :
    ∃ g, g.getLsbD 0 = t.flags.getLsbD 0 ∧ exec i (withFlags f s) = .next (withFlags g t) := by
  by_cases hrti : i = .rti
  · subst hrti
    exact ⟨t.flags, rfl, h⟩
  · by_cases hc : writesCarry i
    · obtain ⟨c, u, hexec⟩ := exec_writesCarry hc s
      have hself := hexec s.flags rfl
      rw [withFlags_self, h] at hself
      injection hself with ht
      refine ⟨(setCarry c (withFlags f u)).flags, ?_, ?_⟩
      · rw [ht, setCarry_getLsbD_zero]
        exact (setCarry_getLsbD_zero c (withFlags s.flags u)).symm
      · rw [hexec f hf, ht]
        rfl
    · refine ⟨f, ?_, ?_⟩
      · rw [exec_keeps_flags hrti hc h, hf]
      · rw [exec_withFlags hrti hc, h]
        rfl

/-- Settles O54: the fetch reads no flag, and the instruction none but C. -/
theorem unusedFlagBitsAffectNothing : Obligations.UnusedFlagBitsAffectNothing := by
  unfold Obligations.UnusedFlagBitsAffectNothing
  intro s t f hf h
  change ∃ g, _ ∧ step (withFlags f s) = .next (withFlags g t)
  by_cases hr : s.status = .running
  · rw [step_running hr] at h
    rw [step_running (withFlags_status f s ▸ hr), fetch_withFlags]
    obtain ⟨hkeeps, -, -⟩ := fetch_keeps s
    exact exec_withFlags_of_same_carry (hf.trans (congrArg (BitVec.getLsbD · 0) hkeeps.flags.symm)) h
  · rw [step_stopped hr] at h
    cases h
    exact ⟨f, hf, step_stopped hr⟩

end Sys2Proof.Machine
end

section
/-! Accesses through the router, at any address (20_memory.md R53 to R62): a 16-bit access is the two byte accesses,
and a byte of the device region is a port of a slot. -/

namespace Sys2Proof.Machine

/-! ## Two bytes (R56, R57) -/

/-- A write goes on where its first byte is done, and is that byte's write where it is not. -/
theorem Flow.andThen_of_not_done {f : Flow} (h : ∀ t, f ≠ .done t) (k : State → Flow) : f.andThen k = f := by
  cases f with
  | done t => exact absurd rfl (h t)
  | halted t => rfl
  | stuck => rfl

theorem write16_of_done {fuel : Nat} {a v : Addr} {s t : State} (h : write8 fuel a (hiByte v) s = .done t) :
    write16 fuel a v s = write8 fuel (a + 1) (loByte v) t := by
  rw [write16, h, Flow.andThen]

theorem write16_of_not_done {fuel : Nat} {a v : Addr} {s : State}
    (h : ∀ t, write8 fuel a (hiByte v) s ≠ .done t) : write16 fuel a v s = write8 fuel a (hiByte v) s :=
  Flow.andThen_of_not_done h _

theorem ramRead_ramWrite_same (a : Addr) (v : Byte) (s : State) : ramRead a (ramWrite a v s) = v :=
  Memory.read_write_same s.ram a.toNat v

theorem ramRead_ramWrite_of_ne {a b : Addr} (h : a.toNat ≠ b.toNat) (v : Byte) (s : State) :
    ramRead b (ramWrite a v s) = ramRead b s :=
  Memory.read_write_of_ne s.ram v h

theorem ramRead_stored_high (a v : Addr) (s : State) : ramRead a (stored .two a v s) = hiByte v :=
  (ramRead_ramWrite_of_ne (toNat_ne_succ a).symm _ _).trans (ramRead_ramWrite_same a _ s)

theorem ramRead_stored_low (a v : Addr) (s : State) : ramRead (a + 1) (stored .two a v s) = loByte v :=
  ramRead_ramWrite_same (a + 1) _ _

theorem stored_ram_read_of_not_touches {a : Addr} {b : Nat} (v : Addr) (s : State) (hb : ¬ touches .two a b) :
    (stored .two a v s).ram.read b = s.ram.read b := by
  obtain ⟨hfirst, hsecond⟩ := not_or.mp hb
  exact (Memory.read_write_of_ne _ _ fun he => hsecond ⟨rfl, he.symm⟩).trans
    (Memory.read_write_of_ne _ _ fun he => hfirst he.symm)

/-- A 16-bit read in RAM puts the two bytes of a 16-bit write together again. -/
theorem read16_stored {a : Addr} (v : Addr) (s : State) (h : isRam a = true) (h' : isRam (a + 1) = true) :
    read16 a (stored .two a v s) = (v, stored .two a v s) := by
  simp only [read16, read8_ram h, read8_ram h', ramRead_stored_high, ramRead_stored_low,
    hiLo_hiByte_loByte]

/-- Settles O12: the accesses in RAM, the composition at every address, and the two ends of the device region. -/
theorem wordsInRamAreBigEndian : Obligations.WordsInRamAreBigEndian := by
  refine ⟨fun fuel a v s h h' => ⟨stored .two a v s, write16_ram h h', ramRead_stored_high a v s,
      ramRead_stored_low a v s, read16_stored v s h h', rfl, fun b => stored_ram_read_of_not_touches v s⟩, ?_,
    fun fuel a v s => ⟨fun t => write16_of_done, write16_of_not_done⟩, fun fuel v s => ⟨?_, ?_⟩⟩
  · intro a s t u hi lo hhi hlo
    simp only [read16, hhi, hlo]
  · have wrap : (0xFFFF : Addr) + 1 = 0x0000 := by decide
    have top : read8 0xFFFF s = busRead 0xFF s := rfl
    have bottom : isRam 0x0000 = true := by decide
    have hram : (busRead 0xFF s).2.ram = s.ram := (memRead_keeps .one 0xFFFF s).2.2
    simp only [read16, wrap, top, read8_ram bottom, ramRead, hram]
  · have last : isRam 0xFEFF = true := by decide
    exact write16_of_done (write8_ram last)

/-! ## A port (R60 to R62) -/

/-- A read of a populated slot is its answer, and one request. -/
theorem read8_present {a : Addr} {s : State} (h : isRam a = false)
    (hp : present (busSlot (loByte a)) s = true) :
    read8 a s = (readAnswer (busSlot (loByte a)) (busPort (loByte a)) s,
      { s with
        readInputs := s.readInputs.tail
        busTrace := s.busTrace ++ [.read (busSlot (loByte a)) (busPort (loByte a))] }) := by
  simp [read8, h, busRead, hp]

/-- A read of an unpopulated slot is zero, and no request. -/
theorem read8_absent {a : Addr} {s : State} (h : isRam a = false)
    (hp : present (busSlot (loByte a)) s = false) : read8 a s = (0x00, s) := by
  simp [read8, h, busRead, hp]

/-- Settles O13: the populated and the unpopulated slot. -/
theorem devicePortAccess : Obligations.DevicePortAccess :=
  fun _ _ h => ⟨read8_present h, fun hp => ⟨read8_absent h hp, fun _ _ => write8_absent h hp⟩⟩

end Sys2Proof.Machine
end

section
/-! The end of a store (20_memory.md R54, R66, R72; 40_cycle.md R118): where it stores in RAM it is done, and
elsewhere it is done, halted or stuck. -/

namespace Sys2Proof.Machine

/-! ## Only a store through the bus can be refused -/

theorem complete_isNext (s : State) : ∃ t, complete s = .next t := ⟨_, rfl⟩

theorem dvmOp_isNext (m : Mode) (s : State) : ∃ t, dvmOp m s = .next t := by
  unfold dvmOp
  split
  · exact ⟨_, rfl⟩
  · exact complete_isNext _

/-- The zero page and the byte after it are RAM, so STZ meets no device (44_memory_access.md R191). -/
theorem complete_storeOp_zeroPage_isNext (m : Mode) (s : State) :
    ∃ t, (storeOp .zeroPage m s).complete = .next t := by
  obtain ⟨hfirst, hsecond⟩ := zext16_isRam (peek .one m.stack 0 s)
  obtain ⟨k, st, w⟩ := m
  rw [storeOp_eq]
  simp only [effectiveAddr, Addressing.operand]
  cases w with
  | one => simp only [memWrite, write8_ram hfirst, Flow.complete, complete_isNext]
  | two => simp only [memWrite, write16_ram hfirst hsecond, Flow.complete, complete_isNext]

/-- The three ends of a write are two answers of an instruction. -/
theorem Flow.complete_isNext_or_stuck (f : Flow) :
    (∃ t, f.complete = .next t) ∨ f.complete = .refused .dmaStuck := by
  cases f with
  | done s => exact .inl (complete_isNext s)
  | halted s => exact .inl ⟨s, rfl⟩
  | stuck => exact .inr rfl

theorem exec_form_isNext_or_stuck {op : BaseOp} {m : Mode} (h : wellFormedForm op m = true) (s : State) :
    (∃ t, exec (form op m) s = .next t) ∨
      (exec (form op m) s = .refused .dmaStuck ∧ (op = .str ∨ op = .sta)) := by
  cases op with
  | pop => rw [exec_form_pop m s h]; exact .inl (complete_isNext _)
  | swp => rw [exec_form_swp]; exact .inl (complete_isNext _)
  | rot => rw [exec_form_rot]; exact .inl (complete_isNext _)
  | dup => rw [exec_form_dup]; exact .inl (complete_isNext _)
  | ovr => rw [exec_form_ovr]; exact .inl (complete_isNext _)
  | equ => rw [exec_form_equ]; exact .inl (complete_isNext _)
  | gth => rw [exec_form_gth]; exact .inl (complete_isNext _)
  | jmp => rw [exec_form_jmp]; exact .inl (complete_isNext _)
  | jcn => rw [exec_form_jcn]; exact .inl (complete_isNext _)
  | jsr => rw [exec_form_jsr]; exact .inl (complete_isNext _)
  | sth => rw [exec_form_sth]; exact .inl (complete_isNext _)
  | ldz => rw [exec_form_ldz]; exact .inl (complete_isNext _)
  | stz => rw [exec_form_stz]; exact .inl (complete_storeOp_zeroPage_isNext m s)
  | ldr => rw [exec_form_ldr]; exact .inl (complete_isNext _)
  | str => rw [exec_form_str]; exact (Flow.complete_isNext_or_stuck _).imp_right fun hs => ⟨hs, .inl rfl⟩
  | lda => rw [exec_form_lda]; exact .inl (complete_isNext _)
  | sta => rw [exec_form_sta]; exact (Flow.complete_isNext_or_stuck _).imp_right fun hs => ⟨hs, .inr rfl⟩
  | pic => rw [exec_form_pic]; exact .inl (complete_isNext _)
  | put => rw [exec_form_put]; exact .inl (complete_isNext _)
  | adc => rw [exec_form_adc]; exact .inl (complete_isNext _)
  | sbc => rw [exec_form_sbc]; exact .inl (complete_isNext _)
  | mul => rw [exec_form_mul]; exact .inl (complete_isNext _)
  | dvm => rw [exec_form_dvm]; exact .inl (dvmOp_isNext m s)
  | and => rw [exec_form_and]; exact .inl (complete_isNext _)
  | ior => rw [exec_form_ior]; exact .inl (complete_isNext _)
  | xor => rw [exec_form_xor]; exact .inl (complete_isNext _)
  | sft => rw [exec_form_sft]; exact .inl (complete_isNext _)

/-- Settles O21: every other instruction is a state and the end-of-instruction increment. -/
theorem onlyRelativeAndAbsoluteStoresGetStuck : Obligations.OnlyRelativeAndAbsoluteStoresGetStuck := by
  unfold Obligations.OnlyRelativeAndAbsoluteStoresGetStuck
  intro i s
  rcases instr_cases i with
    ⟨st, w, imm, rfl⟩ | rfl | rfl | rfl | rfl | rfl | ⟨op, m, rfl⟩ | ⟨op, m, h, rfl⟩
  · rw [exec_litForm]
    exact .inl (complete_isNext _)
  · exact .inl (complete_isNext s)
  · exact .inl (complete_isNext _)
  · exact .inl (complete_isNext _)
  · exact .inl (complete_isNext _)
  · exact .inl (complete_isNext _)
  · rw [exec_reservedForm]
    exact .inl (complete_isNext s)
  · refine (exec_form_isNext_or_stuck h s).imp_right fun ⟨hstuck, hop⟩ => ⟨hstuck, m, ?_⟩
    exact hop.imp (congrArg (form · m)) (congrArg (form · m))

/-! ## What a store keeps -/

theorem BusKeeps.sp {s t : State} (h : BusKeeps s t) (st : StackId) : sp st t = sp st s := by
  cases st with
  | working => exact h.wsp
  | ret => exact h.rsp

/-- How a store leaves the status and `pc`: past the opcode with the status as it was, or halted and still at the
opcode (20_memory.md R66, 40_cycle.md R118). -/
def doneOrHalted (s t : State) : Prop :=
  (t.status = s.status ∧ t.pc = s.pc + 1) ∨ ((∃ code, t.status = .halted code) ∧ t.pc = s.pc)

/-- The end of a write: done and past the opcode, or halted and still at it. -/
theorem Flow.complete_keeps {f : Flow} {s t : State} (hf : f.keeps s) (h : f.complete = .next t) :
    t.flags = s.flags ∧ t.slots = s.slots ∧ t.dmaFuel = s.dmaFuel ∧ (∀ st, sp st t = sp st s) ∧
      doneOrHalted s t := by
  cases f with
  | done u =>
    obtain ⟨hkeeps, hstatus⟩ := hf
    obtain rfl : setPc (u.pc + 1) u = t := by injection h
    refine ⟨hkeeps.flags, hkeeps.slots, hkeeps.dmaFuel, fun st => ?_, .inl ⟨hstatus, ?_⟩⟩
    · rw [sp_setPc, hkeeps.sp]
    · rw [setPc_pc, hkeeps.pc]
  | halted u =>
    obtain ⟨hkeeps, hcode⟩ := hf
    obtain rfl : u = t := by injection h
    exact ⟨hkeeps.flags, hkeeps.slots, hkeeps.dmaFuel, hkeeps.sp, .inr ⟨hcode, hkeeps.pc⟩⟩
  | stuck => cases h

/-- A store is a write from the state after its takes, which move the own stack pointer alone. -/
theorem complete_storeOp_keeps {k : Addressing} {m : Mode} {s t : State}
    (h : (storeOp k m s).complete = .next t) :
    t.flags = s.flags ∧ t.slots = s.slots ∧ t.dmaFuel = s.dmaFuel ∧
      sp m.stack t = sp m.stack (dropCells m (m.width.bytes + k.operand.bytes) s) ∧
      sp m.stack.other t = sp m.stack.other s ∧ doneOrHalted s t := by
  rw [storeOp_eq, Nat.add_comm] at h
  obtain ⟨hflags, hslots, hfuel, hsp, hend⟩ := Flow.complete_keeps (memWrite_keeps ..) h
  have hother := hsp m.stack.other
  simp only [doneOrHalted, dropCells_flags, dropCells_slots, dropCells_dmaFuel, dropCells_status,
    dropCells_pc, sp_other_dropCells] at hflags hslots hfuel hother hend
  exact ⟨hflags, hslots, hfuel, hsp m.stack, hother, hend⟩

/-- Settles O48: the three kinds of store. -/
theorem deviceStoreFrame : Obligations.DeviceStoreFrame := by
  unfold Obligations.DeviceStoreFrame
  intro op hop m s t h
  simp only [List.mem_cons, List.not_mem_nil, or_false] at hop
  rcases hop with rfl | rfl | rfl
  · rw [exec_form_stz] at h
    exact complete_storeOp_keeps (k := .zeroPage) h
  · rw [exec_form_str] at h
    exact complete_storeOp_keeps (k := .relative) h
  · rw [exec_form_sta] at h
    exact complete_storeOp_keeps (k := .absolute) h

end Sys2Proof.Machine
end

section
/-! What the router does with each response of a device (20_memory.md R62 to R72): the two directions of a DMA, the
shutdown, and the nesting of device-to-memory DMAs. -/

namespace Sys2Proof.Machine

/-! ## The request and its answer -/

section Answered

variable {w8 : Addr → Byte → State → Flow} {a : Addr} {v : Byte} {s : State} {r : Response}
  (ha : isRam a = false) (hp : present (busSlot (loByte a)) s = true)
  (hr : writeAnswer (busSlot (loByte a)) (busPort (loByte a)) v s = r)
include ha hp hr

theorem write8With_answered :
    write8With w8 a v s = applyResponse w8 r (busRespond (busSlot (loByte a)) r
      (afterRequest (busSlot (loByte a)) (busPort (loByte a)) v s)) := by
  rw [write8With_present ha hp, hr]
  rfl

/-- An answer that nests no write is applied alike at every fuel. -/
theorem write8_answered {fuel : Nat} {f : Flow}
    (h : ∀ w8 : Addr → Byte → State → Flow, applyResponse w8 r (busRespond (busSlot (loByte a)) r
      (afterRequest (busSlot (loByte a)) (busPort (loByte a)) v s)) = f) : write8 fuel a v s = f := by
  obtain ⟨w8, hlevel, -, -⟩ := write8_level fuel
  rw [hlevel, write8With_answered ha hp hr, h]

end Answered

/-- The next answer is the head of the list of answers. -/
theorem writeAnswer_cons {s : State} {r : Response} {rest : List Response} (h : s.writeInputs = r :: rest)
    (slot : Slot) (port : Port) (v : Byte) : writeAnswer slot port v s = r := by
  simp only [writeAnswer, h]

/-! ## The shutdown (R66) -/

theorem allSlots_eq_finRange : allSlots = List.finRange 16 := by decide

theorem halt_shutdownAll_afterRequest (code : ExitCode) (slot : Slot) (port : Port) (v : Byte) (s : State) :
    halt code (shutdownAll (afterRequest slot port v s)) =
      { afterRequest slot port v s with
        status := .halted code
        busTrace := s.busTrace ++ .write slot port v ::
          (((List.finRange 16).filter fun slot => present slot s).map BusEvent.shutdown) } := by
  have hpresent : (fun slot' => present slot' (afterRequest slot port v s)) = fun slot' => present slot' s := rfl
  have htrace : (afterRequest slot port v s).busTrace = s.busTrace ++ [.write slot port v] := rfl
  simp only [halt, shutdownAll, allSlots_eq_finRange, hpresent, htrace, List.append_assoc,
    List.singleton_append]

/-- Settles O18: the machine is halted, so a 16-bit write ends at its first byte. -/
theorem shutdownResponseHalts : Obligations.ShutdownResponseHalts := by
  unfold Obligations.ShutdownResponseHalts
  intro fuel a v s code ha hp hr
  have hwrite := write8_answered ha hp hr (fuel := fuel) fun _ =>
    congrArg Flow.halted (halt_shutdownAll_afterRequest code _ _ v s)
  refine ⟨hwrite, fun lo => ?_⟩
  rw [write16, hiByte_hiLo, hwrite, Flow.andThen]

/-! ## Consecutive addresses -/

theorem add_one_add_ofNat (t : Addr) (k : Nat) :
    t + 1 + BitVec.ofNat 16 k = t + BitVec.ofNat 16 (k + 1) := by
  rw [Nat.add_comm k 1, BitVec.ofNat_add, BitVec.add_assoc]
  rfl

theorem add_ofNat_zero (t : Addr) : t + BitVec.ofNat 16 0 = t := BitVec.add_zero t

/-- A range no longer than memory does not come back to its first address. -/
theorem toNat_ne_add_ofNat_succ (t : Addr) {k : Nat} (h : k + 1 < 65536) :
    t.toNat ≠ (t + BitVec.ofNat 16 (k + 1)).toNat := by
  rw [BitVec.toNat_add, BitVec.toNat_ofNat]
  have := t.isLt
  omega

/-- Every device address of a range of `n` bytes from `t` on is a port of an unpopulated slot. -/
def quietRange (t : Addr) (n : Nat) (s : State) : Prop :=
  ∀ k, k < n → isRam (t + BitVec.ofNat 16 k) = false →
    present (busSlot (loByte (t + BitVec.ofNat 16 k))) s = false

theorem quietRange.head {t : Addr} {n : Nat} {s : State} (h : quietRange t (n + 1) s)
    (ht : isRam t = false) : present (busSlot (loByte t)) s = false := by
  have h0 := h 0 (Nat.succ_pos n)
  rw [add_ofNat_zero] at h0
  exact h0 ht

/-- What is left of a range, in a state with the same devices. -/
theorem quietRange.tail {t : Addr} {n : Nat} {s u : State} (h : quietRange t (n + 1) s)
    (hu : u.slots = s.slots) : quietRange (t + 1) n u := by
  intro k hk
  rw [add_one_add_ofNat, present_congr hu]
  exact h (k + 1) (Nat.succ_lt_succ hk)

/-- The states of a sequence of accesses, with one more access before them. -/
def statesFrom (s : State) (st : Nat → State) : Nat → State
  | 0 => s
  | k + 1 => st k

/-! ## Device to memory (R64, R65) -/

/-- Bytes placed one by one change RAM alone. -/
theorem placeBytes_eq_ram (t : Addr) (bytes : List Byte) (s : State) :
    placeBytes t bytes s = { s with ram := (placeBytes t bytes s).ram } := by
  induction bytes generalizing t s with
  | nil => rfl
  | cons b rest ih =>
    rw [placeBytes, ih]
    split <;> rfl

/-- They change RAM at their addresses alone. -/
theorem placeBytes_ram_read_of_ne {t : Addr} {bytes : List Byte} {b : Nat} (s : State)
    (h : ∀ k, k < bytes.length → b ≠ (t + BitVec.ofNat 16 k).toNat) :
    (placeBytes t bytes s).ram.read b = s.ram.read b := by
  induction bytes generalizing t s with
  | nil => rfl
  | cons c rest ih =>
    have hfirst := h 0 (Nat.succ_pos _)
    rw [add_ofNat_zero] at hfirst
    rw [placeBytes, ih]
    · split
      · exact Memory.read_write_of_ne _ _ hfirst.symm
      · rfl
    · intro k hk
      rw [add_one_add_ofNat]
      exact h (k + 1) (Nat.succ_lt_succ hk)

/-- They stand at their addresses, as far as those are RAM: none is written twice. -/
theorem ramRead_placeBytes {t : Addr} {bytes : List Byte} (s : State) (hlen : bytes.length ≤ 65536)
    (k : Nat) (hk : k < bytes.length) (hram : isRam (t + BitVec.ofNat 16 k) = true) :
    ramRead (t + BitVec.ofNat 16 k) (placeBytes t bytes s) = bytes[k] := by
  induction bytes generalizing t s k with
  | nil => exact absurd hk (Nat.not_lt_zero k)
  | cons c rest ih =>
    rw [List.length_cons] at hlen hk
    cases k with
    | zero =>
      rw [add_ofNat_zero] at hram ⊢
      rw [placeBytes, if_pos hram, ramRead, placeBytes_ram_read_of_ne]
      · exact ramRead_ramWrite_same t c s
      · intro j hj
        rw [add_one_add_ofNat]
        exact toNat_ne_add_ofNat_succ t (by omega)
    | succ k =>
      rw [← add_one_add_ofNat] at hram ⊢
      exact ih _ (by omega) k (by omega) hram

/-- Over RAM and unpopulated slots the nested writes place the bytes. -/
theorem applyD2m_quiet {w8 : Addr → Byte → State → Flow}
    (hram : ∀ a v s, isRam a = true → w8 a v s = .done (ramWrite a v s))
    (habsent : ∀ a v s, isRam a = false → present (busSlot (loByte a)) s = false → w8 a v s = .done s)
    {t : Addr} {bytes : List Byte} {s : State} (h : quietRange t bytes.length s) :
    applyD2m w8 t bytes s = .done (placeBytes t bytes s) := by
  induction bytes generalizing t s with
  | nil => rfl
  | cons b rest ih =>
    rw [applyD2m, placeBytes]
    by_cases ht : isRam t = true
    · rw [hram t b s ht, if_pos ht]
      exact ih (h.tail rfl)
    · rw [Bool.not_eq_true] at ht
      rw [habsent t b s ht (h.head ht), ht]
      exact ih (h.tail rfl)

/-- The nested writes of a DMA, whatever they meet: `m` of them are done, each in the state the one before left,
and the DMA ends with the last byte, or as the first write that is not done. -/
structure D2mRun (w8 : Addr → Byte → State → Flow) (t : Addr) (bytes : List Byte) (s : State)
    (st : Nat → State) (m : Nat) : Prop where
  first : st 0 = s
  le : m ≤ bytes.length
  done : ∀ k (h : k < bytes.length), k < m →
    w8 (t + BitVec.ofNat 16 k) bytes[k] (st k) = .done (st (k + 1))
  all : m = bytes.length → applyD2m w8 t bytes s = .done (st m)
  stop : ∀ h : m < bytes.length,
    (∀ u, w8 (t + BitVec.ofNat 16 m) bytes[m] (st m) ≠ .done u) ∧
    applyD2m w8 t bytes s = w8 (t + BitVec.ofNat 16 m) bytes[m] (st m)

theorem D2mRun.nil (w8 : Addr → Byte → State → Flow) (t : Addr) (s : State) :
    D2mRun w8 t [] s (fun _ => s) 0 where
  first := rfl
  le := Nat.le_refl 0
  done k h := absurd h (Nat.not_lt_zero k)
  all _ := rfl
  stop h := absurd h (Nat.lt_irrefl 0)

section Cons

variable {w8 : Addr → Byte → State → Flow} {t : Addr} {b : Byte} {rest : List Byte} {s : State}

theorem D2mRun.cons_of_not_done (h : ∀ u, w8 t b s ≠ .done u) :
    D2mRun w8 t (b :: rest) s (fun _ => s) 0 where
  first := rfl
  le := Nat.zero_le _
  done k _ hk := absurd hk (Nat.not_lt_zero k)
  all h := absurd h (Nat.succ_ne_zero _).symm
  stop _ := by
    rw [add_ofNat_zero]
    exact ⟨h, Flow.andThen_of_not_done h _⟩

theorem D2mRun.cons_of_done {u : State} {st : Nat → State} {m : Nat} (h : w8 t b s = .done u)
    (hrest : D2mRun w8 (t + 1) rest u st m) : D2mRun w8 t (b :: rest) s (statesFrom s st) (m + 1) := by
  have happly : applyD2m w8 t (b :: rest) s = applyD2m w8 (t + 1) rest u := by
    rw [applyD2m, h, Flow.andThen]
  refine ⟨rfl, Nat.succ_le_succ hrest.le, fun k hk hkm => ?_, fun hm => ?_, fun hm => ?_⟩
  · cases k with
    | zero =>
      rw [add_ofNat_zero]
      exact h.trans (congrArg Flow.done hrest.first.symm)
    | succ k =>
      rw [← add_one_add_ofNat]
      exact hrest.done k (Nat.lt_of_succ_lt_succ hk) (Nat.lt_of_succ_lt_succ hkm)
  · exact happly.trans (hrest.all (Nat.succ_injective hm))
  · rw [← add_one_add_ofNat, happly]
    exact hrest.stop (Nat.lt_of_succ_lt_succ hm)

end Cons

theorem exists_d2mRun (w8 : Addr → Byte → State → Flow) (t : Addr) (bytes : List Byte) (s : State) :
    ∃ st m, D2mRun w8 t bytes s st m := by
  induction bytes generalizing t s with
  | nil => exact ⟨_, _, D2mRun.nil w8 t s⟩
  | cons b rest ih =>
    by_cases h : ∃ u, w8 t b s = .done u
    · obtain ⟨u, hu⟩ := h
      obtain ⟨st, m, hrest⟩ := ih (t + 1) u
      exact ⟨_, _, D2mRun.cons_of_done hu hrest⟩
    · exact ⟨_, _, D2mRun.cons_of_not_done (not_exists.mp h)⟩

/-- Settles O16: the closed form over RAM and unpopulated slots, and the run of the nested writes. -/
theorem deviceToMemoryDmaFillsRam : Obligations.DeviceToMemoryDmaFillsRam := by
  unfold Obligations.DeviceToMemoryDmaFillsRam
  intro fuel a v s t bytes ha hp hr
  constructor
  · intro hlen hquiet
    let q := afterRequest (busSlot (loByte a)) (busPort (loByte a)) v s
    obtain ⟨w8, hlevel, hram, habsent⟩ := write8_level fuel
    refine ⟨placeBytes t bytes q, ?_, ramRead_placeBytes q hlen, fun b => placeBytes_ram_read_of_ne q,
      placeBytes_eq_ram t bytes q⟩
    rw [hlevel, write8With_answered ha hp hr]
    exact applyD2m_quiet hram habsent (s := q) hquiet
  · obtain ⟨st, m, hrun⟩ :=
      exists_d2mRun (write8 fuel) t bytes (afterRequest (busSlot (loByte a)) (busPort (loByte a)) v s)
    have hwrite : write8 (fuel + 1) a v s = applyD2m (write8 fuel) t bytes
        (afterRequest (busSlot (loByte a)) (busPort (loByte a)) v s) := write8With_answered ha hp hr
    rw [hwrite]
    exact ⟨st, hrun.first, m, hrun.le, hrun.done, hrun.all, hrun.stop⟩

/-! ## Memory to device (R67 to R69) -/

/-- What a memory-to-device DMA delivers for an address of RAM or of an unpopulated slot. -/
def quietByte (a : Addr) (s : State) : Byte := if isRam a then ramRead a s else 0x00

theorem read8_quiet {a : Addr} {s : State}
    (h : isRam a = false → present (busSlot (loByte a)) s = false) : read8 a s = (quietByte a s, s) := by
  unfold quietByte
  split
  · next ha => exact read8_ram ha
  · next ha =>
    rw [Bool.not_eq_true] at ha
    exact read8_absent ha (h ha)

/-- Over RAM and unpopulated slots the reads have no effect. -/
theorem readBytes_quiet {t : Addr} {len : Nat} {s : State} (h : quietRange t len s) :
    readBytes t len s = ((List.range len).map fun k => quietByte (t + BitVec.ofNat 16 k) s, s) := by
  induction len generalizing t with
  | zero => rfl
  | succ n ih =>
    simp only [readBytes, read8_quiet h.head, ih (h.tail rfl), List.range_succ_eq_map, List.map_cons,
      List.map_map, add_ofNat_zero, add_one_add_ofNat, Function.comp_def]

theorem read8_lastDmaSource (a : Addr) (s : State) : (read8 a s).2.lastDmaSource = s.lastDmaSource := by
  rcases read8_cases a s with h | ⟨slot, port, h⟩
  · rw [h]
  · rw [h]

theorem readBytes_lastDmaSource (t : Addr) (len : Nat) (s : State) :
    (readBytes t len s).2.lastDmaSource = s.lastDmaSource := by
  induction len generalizing t s with
  | zero => rfl
  | succ n ih => exact (ih (t + 1) _).trans (read8_lastDmaSource t s)

theorem readBytes_length (t : Addr) (len : Nat) (s : State) : (readBytes t len s).1.length = len := by
  induction len generalizing t s with
  | zero => rfl
  | succ n ih => exact congrArg Nat.succ (ih (t + 1) _)

/-- The reads of a DMA, whatever they meet, each in the state the one before left. -/
theorem exists_readBytes_states (t : Addr) (len : Nat) (s : State) :
    ∃ st : Nat → State, st 0 = s ∧ (readBytes t len s).2 = st len ∧
      ∀ k (h : k < (readBytes t len s).1.length),
        read8 (t + BitVec.ofNat 16 k) (st k) = ((readBytes t len s).1[k], st (k + 1)) := by
  induction len generalizing t s with
  | zero => exact ⟨fun _ => s, rfl, rfl, fun k h => absurd h (Nat.not_lt_zero k)⟩
  | succ n ih =>
    obtain ⟨st, hfirst, hlast, hreads⟩ := ih (t + 1) (read8 t s).2
    refine ⟨statesFrom s st, rfl, hlast, fun k hk => ?_⟩
    cases k with
    | zero =>
      rw [add_ofNat_zero]
      exact Prod.ext rfl hfirst.symm
    | succ k =>
      rw [← add_one_add_ofNat]
      exact hreads k (Nat.lt_of_succ_lt_succ hk)

/-- The delivery to a populated slot is one callback. -/
theorem dmaDeliver_present {slot : Slot} {s : State} (bytes : List Byte) (hs : s.lastDmaSource = some slot)
    (hp : present slot s = true) :
    dmaDeliver bytes s = { s with busTrace := s.busTrace ++ [.dmaCallback slot bytes] } := by
  simp only [dmaDeliver, hs, hp, if_true]

/-- A memory-to-device DMA of a populated slot, its reads made. -/
theorem applyM2d_eq {slot : Slot} {s : State} (t : Addr) (len : Nat) (hs : s.lastDmaSource = some slot)
    (hp : present slot s = true) :
    applyM2d t len s = { (readBytes t len s).2 with
      busTrace := (readBytes t len s).2.busTrace ++ [.dmaCallback slot (readBytes t len s).1] } :=
  dmaDeliver_present _ ((readBytes_lastDmaSource t len s).trans hs)
    ((present_congr (readBytes_keeps t len s).1.slots).trans hp)

/-- Settles O17: the closed form over RAM and unpopulated slots, and the reads one after the other. -/
theorem memoryToDeviceDmaDelivers : Obligations.MemoryToDeviceDmaDelivers := by
  unfold Obligations.MemoryToDeviceDmaDelivers
  intro fuel a v s t len ha hp hr
  let q : State := { afterRequest (busSlot (loByte a)) (busPort (loByte a)) v s with
    lastDmaSource := some (busSlot (loByte a)) }
  have hwrite : write8 fuel a v s = .done { (readBytes t len q).2 with
      busTrace := (readBytes t len q).2.busTrace ++
        [.dmaCallback (busSlot (loByte a)) (readBytes t len q).1] } :=
    write8_answered ha hp hr fun _ => congrArg Flow.done (applyM2d_eq (s := q) t len rfl hp)
  constructor
  · intro hquiet
    rw [hwrite, readBytes_quiet (s := q) hquiet]
    simp only [q, afterRequest, List.append_assoc, List.singleton_append]
    rfl
  · obtain ⟨st, hfirst, hlast, hreads⟩ := exists_readBytes_states t len q
    refine ⟨st, (readBytes t len q).1, hfirst, readBytes_length t len q, hreads, ?_⟩
    rw [hwrite, hlast]

/-! ## Nested device-to-memory DMAs (R71, R72) -/

/-- A one-byte DMA is the nested write of its byte. -/
theorem applyD2m_singleton (w8 : Addr → Byte → State → Flow) (t : Addr) (b : Byte) (s : State) :
    applyD2m w8 t [b] s = w8 t b s := by
  rw [applyD2m]
  cases w8 t b s <;> rfl

theorem write8Last_present {a : Addr} {v : Byte} {s : State} (h : isRam a = false)
    (hp : present (busSlot (loByte a)) s = true) : write8Last a v s = .stuck := by
  simp [write8Last, h, hp]

/-- A write that the next answer nests one byte deeper is the nested write. -/
theorem write8With_nested {w8 : Addr → Byte → State → Flow} {a t : Addr} {v b : Byte} {s : State}
    {rest : List Response} (ha : isRam a = false) (hp : present (busSlot (loByte a)) s = true)
    (hs : s.writeInputs = .devToMem t [b] :: rest) :
    write8With w8 a v s = w8 t b (afterRequest (busSlot (loByte a)) (busPort (loByte a)) v s) := by
  rw [write8With_answered ha hp (writeAnswer_cons hs _ _ v)]
  exact applyD2m_singleton w8 t b _

theorem afterRequest_writeInputs {slot : Slot} {port : Port} {v : Byte} {s : State} {r : Response}
    {rest : List Response} (hs : s.writeInputs = r :: rest) :
    (afterRequest slot port v s).writeInputs = rest := by
  simp only [afterRequest, hs, List.tail_cons]

section Nested

variable {fuel : Nat} {a t : Addr} {v b : Byte} {s : State} (ha : isRam a = false) (ht : isRam t = false)
  (hpa : present (busSlot (loByte a)) s = true) (hpt : present (busSlot (loByte t)) s = true)
include ha ht hpa hpt

/-- Every level takes one answer, and the last level has no fuel for one more. -/
theorem write8_stuck_of_deep_chain (hs : s.writeInputs = List.replicate (fuel + 1) (.devToMem t [b])) :
    write8 fuel a v s = .stuck := by
  induction fuel generalizing a v s with
  | zero =>
    rw [write8, write8With_nested ha hpa hs]
    exact write8Last_present ht hpt
  | succ n ih =>
    rw [List.replicate_succ] at hs
    rw [write8, write8With_nested ha hpa hs]
    exact ih ht hpt hpt (afterRequest_writeInputs hs)

theorem write8_done_of_short_chain {k : Nat} {rest : List Response} (hk : k ≤ fuel)
    (hs : s.writeInputs = List.replicate k (.devToMem t [b]) ++ .none :: rest) :
    ∃ u, write8 fuel a v s = .done u ∧ u.writeInputs = rest ∧ u.ram = s.ram := by
  induction k generalizing fuel a v s with
  | zero =>
    exact ⟨_, write8_answered ha hpa (writeAnswer_cons hs _ _ v) fun _ => rfl,
      afterRequest_writeInputs hs, rfl⟩
  | succ k ih =>
    obtain ⟨n, rfl⟩ := Nat.exists_eq_add_of_lt hk
    rw [List.replicate_succ, List.cons_append] at hs
    rw [write8, write8With_nested ha hpa hs]
    exact ih ht hpt hpt (Nat.le_add_right k n) (afterRequest_writeInputs hs)

end Nested

/-- Settles O19: the chain one too deep, and the chain that ends in time. -/
theorem nestedChainEndsWithinTheFuelOrIsStuck : Obligations.NestedChainEndsWithinTheFuelOrIsStuck :=
  fun _ _ _ _ _ _ ha ht hpa hpt => ⟨write8_stuck_of_deep_chain ha ht hpa hpt,
    fun _ _ hk hs => write8_done_of_short_chain ha ht hpa hpt hk hs⟩

end Sys2Proof.Machine
end

section
/-! The fuel is no part of the machine (20_memory.md R72). An operation that writes nothing through the router commutes
with an exchange of the fuel. A write that ends at one depth of nesting ends alike, but for the fuel, at any
greater depth: both are carried through the levels of the nesting at once. -/

namespace Sys2Proof.Machine

/-- The state with another fuel. -/
def withFuel (g : Nat) (s : State) : State := { s with dmaFuel := g }

section Operations

variable (g : Nat) (s : State)

@[simp] theorem withFuel_pc : (withFuel g s).pc = s.pc := rfl

@[simp] theorem withFuel_status : (withFuel g s).status = s.status := rfl

@[simp] theorem withFuel_lastDmaSource : (withFuel g s).lastDmaSource = s.lastDmaSource := rfl

@[simp] theorem carryNat_withFuel : carryNat (withFuel g s) = carryNat s := rfl

@[simp] theorem present_withFuel (slot : Slot) : present slot (withFuel g s) = present slot s :=
  present_congr rfl

@[simp] theorem writeAnswer_withFuel (slot : Slot) (port : Port) (v : Byte) :
    writeAnswer slot port v (withFuel g s) = writeAnswer slot port v s := rfl

/-! ## The operations of an instruction -/

@[simp] theorem peek_withFuel (w : Width) (st : StackId) (o : Nat) :
    peek w st o (withFuel g s) = peek w st o s := by
  apply peek_congr
  · rfl
  · cases st <;> rfl

@[simp] theorem pop_withFuel (w : Width) (st : StackId) :
    pop w st (withFuel g s) = ((pop w st s).1, withFuel g (pop w st s).2) := by
  cases w <;> cases st <;> rfl

@[simp] theorem push_withFuel (w : Width) (st : StackId) (v : BitVec w.bits) :
    push w st v (withFuel g s) = withFuel g (push w st v s) := by
  cases w <;> cases st <;> rfl

@[simp] theorem push8_withFuel (st : StackId) (v : Byte) :
    push8 st v (withFuel g s) = withFuel g (push8 st v s) := push_withFuel g s .one st v

@[simp] theorem push16_withFuel (st : StackId) (v : Addr) :
    push16 st v (withFuel g s) = withFuel g (push16 st v s) := push_withFuel g s .two st v

@[simp] theorem poke_withFuel (w : Width) (st : StackId) (o : Nat) (v : BitVec w.bits) :
    poke w st o v (withFuel g s) = withFuel g (poke w st o v s) := by
  cases w <;> cases st <;> rfl

@[simp] theorem setPc_withFuel (a : Addr) : setPc a (withFuel g s) = withFuel g (setPc a s) := rfl

@[simp] theorem jump_withFuel (t : Addr) : jump t (withFuel g s) = withFuel g (jump t s) := rfl

@[simp] theorem setCarry_withFuel (c : Bool) : setCarry c (withFuel g s) = withFuel g (setCarry c s) := rfl

@[simp] theorem dropCells_withFuel (m : Mode) (c : Nat) :
    dropCells m c (withFuel g s) = withFuel g (dropCells m c s) := by
  obtain ⟨k, st, w⟩ := m
  cases k <;> cases st <;> rfl

@[simp] theorem take_withFuel (m : Mode) (w : Width) (cur : Nat) :
    take m w cur (withFuel g s) = ((take m w cur s).1, withFuel g (take m w cur s).2) := by
  unfold take
  split <;> simp

@[simp] theorem takePair_withFuel (m : Mode) :
    takePair m (withFuel g s) =
      ⟨(takePair m s).a, (takePair m s).b, withFuel g (takePair m s).rest⟩ := by
  simp [takePair]

@[simp] theorem effectiveAddr_withFuel (k : Addressing) (o : BitVec k.operand.bits) :
    effectiveAddr k o (withFuel g s) = effectiveAddr k o s := by
  cases k <;> rfl

@[simp] theorem target_withFuel (m : Mode) :
    target m (withFuel g s) = ((target m s).1, withFuel g (target m s).2) := by
  obtain ⟨k, st, w⟩ := m
  cases w <;> simp [target, jumpAddr, relative]

@[simp] theorem jcnOp_withFuel (m : Mode) : jcnOp m (withFuel g s) = withFuel g (jcnOp m s) := by
  simp only [jcnOp, target_withFuel, take_withFuel]
  split <;> rfl

/-! ## The router's reads -/

@[simp] theorem read8_withFuel (a : Addr) :
    read8 a (withFuel g s) = ((read8 a s).1, withFuel g (read8 a s).2) := by
  unfold read8 busRead
  simp only [present_withFuel]
  split
  · rfl
  · split <;> rfl

@[simp] theorem memRead_withFuel (w : Width) (a : Addr) :
    memRead w a (withFuel g s) = ((memRead w a s).1, withFuel g (memRead w a s).2) := by
  cases w <;> simp [memRead, read16]

@[simp] theorem loadOp_withFuel (k : Addressing) (m : Mode) :
    loadOp k m (withFuel g s) = withFuel g (loadOp k m s) := by
  simp [loadOp]

theorem readBytes_withFuel (a : Addr) (len : Nat) :
    readBytes a len (withFuel g s) = ((readBytes a len s).1, withFuel g (readBytes a len s).2) := by
  induction len generalizing a s with
  | zero => rfl
  | succ n ih => simp [readBytes, ih]

theorem fetch_withFuel : fetch (withFuel g s) = ((fetch s).1, withFuel g (fetch s).2) := by
  simp only [fetch, fetchLiteral, read8_withFuel, memRead_withFuel, withFuel_pc]
  split <;> rfl

/-! ## What the bus does -/

theorem dmaDeliver_withFuel (bytes : List Byte) :
    dmaDeliver bytes (withFuel g s) = withFuel g (dmaDeliver bytes s) := by
  simp only [dmaDeliver, withFuel_lastDmaSource, present_withFuel]
  split
  · rfl
  · split <;> rfl

theorem applyM2d_withFuel (t : Addr) (len : Nat) :
    applyM2d t len (withFuel g s) = withFuel g (applyM2d t len s) := by
  simp only [applyM2d, readBytes_withFuel, dmaDeliver_withFuel]

theorem busWrite_withFuel (b v : Byte) :
    busWrite b v (withFuel g s) = ((busWrite b v s).1, withFuel g (busWrite b v s).2) := by
  simp only [busWrite, present_withFuel, writeAnswer_withFuel]
  split
  · cases writeAnswer (busSlot b) (busPort b) v s <;> rfl
  · rfl

end Operations

/-! ## Writes at two depths -/

/-- Where the first write ends, the second ends alike, with the fuel `g`. -/
def Flow.endsAlike (g : Nat) (f f' : Flow) : Prop :=
  match f with
  | .done t => f' = .done (withFuel g t)
  | .halted t => f' = .halted (withFuel g t)
  | .stuck => True

theorem Flow.endsAlike_andThen {g : Nat} {f f' : Flow} {k k' : State → Flow} (h : f.endsAlike g f')
    (hk : ∀ s, (k s).endsAlike g (k' (withFuel g s))) : (f.andThen k).endsAlike g (f'.andThen k') := by
  cases f with
  | done t =>
    obtain rfl : f' = .done (withFuel g t) := h
    exact hk t
  | halted t =>
    obtain rfl : f' = .halted (withFuel g t) := h
    rfl
  | stuck => trivial

section Levels

variable {g : Nat} {w8 w8' : Addr → Byte → State → Flow}
  (h : ∀ a v s, (w8 a v s).endsAlike g (w8' a v (withFuel g s)))
include h

theorem applyD2m_endsAlike (t : Addr) (bytes : List Byte) (s : State) :
    (applyD2m w8 t bytes s).endsAlike g (applyD2m w8' t bytes (withFuel g s)) := by
  induction bytes generalizing t s with
  | nil => rfl
  | cons b rest ih => exact Flow.endsAlike_andThen (h t b s) (ih (t + 1))

theorem applyResponse_endsAlike (r : Response) (s : State) :
    (applyResponse w8 r s).endsAlike g (applyResponse w8' r (withFuel g s)) := by
  cases r with
  | none => rfl
  | devToMem t bytes => exact applyD2m_endsAlike h t bytes s
  | memToDev t len => exact congrArg Flow.done (applyM2d_withFuel g s t len)
  | shutdown code => rfl

theorem write8With_endsAlike (a : Addr) (v : Byte) (s : State) :
    (write8With w8 a v s).endsAlike g (write8With w8' a v (withFuel g s)) := by
  unfold write8With
  split
  · rfl
  · rw [busWrite_withFuel]
    exact applyResponse_endsAlike h _ _

end Levels

/-- Without fuel a write that is not stuck meets no device, and so ends alike at every fuel. -/
theorem write8Last_endsAlike (g n : Nat) (a : Addr) (v : Byte) (s : State) :
    (write8Last a v s).endsAlike g (write8 n a v (withFuel g s)) := by
  unfold write8Last
  split
  · next ha => exact write8_ram ha
  · next ha =>
    rw [Bool.not_eq_true] at ha
    split
    · trivial
    · next hp =>
      rw [Bool.not_eq_true] at hp
      exact write8_absent ha ((present_withFuel g s _).trans hp)

theorem write8Last_endsAlike_self (g : Nat) (a : Addr) (v : Byte) (s : State) :
    (write8Last a v s).endsAlike g (write8Last a v (withFuel g s)) := by
  simp only [write8Last, present_withFuel]
  split
  · rfl
  · split
    · trivial
    · rfl

theorem write8_endsAlike (g : Nat) {n n' : Nat} (hn : n ≤ n') (a : Addr) (v : Byte) (s : State) :
    (write8 n a v s).endsAlike g (write8 n' a v (withFuel g s)) := by
  induction n generalizing n' a v s with
  | zero =>
    cases n' with
    | zero => exact write8With_endsAlike (write8Last_endsAlike_self g) a v s
    | succ k => exact write8With_endsAlike (write8Last_endsAlike g k) a v s
  | succ n ih =>
    cases n' with
    | zero => exact absurd hn (Nat.not_succ_le_zero n)
    | succ k => exact write8With_endsAlike (ih (Nat.le_of_succ_le_succ hn)) a v s

theorem memWrite_endsAlike {g : Nat} {s : State} (hg : s.dmaFuel ≤ g) (w : Width) (a : Addr)
    (v : BitVec w.bits) : (memWrite w a v s).endsAlike g (memWrite w a v (withFuel g s)) := by
  cases w with
  | one => exact write8_endsAlike g hg a v s
  | two => exact Flow.endsAlike_andThen (write8_endsAlike g hg a _ s) (write8_endsAlike g hg (a + 1) _)

theorem storeOp_endsAlike {g : Nat} {s : State} (hg : s.dmaFuel ≤ g) (k : Addressing) (m : Mode) :
    (storeOp k m s).endsAlike g (storeOp k m (withFuel g s)) := by
  simp only [storeOp_eq, peek_withFuel, effectiveAddr_withFuel, dropCells_withFuel]
  exact memWrite_endsAlike ((dropCells_dmaFuel m _ s).trans_le hg) _ _ _

/-! ## The instructions -/

/-- Where the first answer is a next state, the second is the same one, with the fuel `g`. -/
def answersAlike (g : Nat) (r r' : Answer) : Prop := ∀ t, r = .next t → r' = .next (withFuel g t)

@[simp] theorem complete_answersAlike (g : Nat) (s : State) :
    answersAlike g (complete s) (complete (withFuel g s)) := by
  rintro _ ⟨⟩
  rfl

theorem Flow.complete_answersAlike {g : Nat} {f f' : Flow} (h : f.endsAlike g f') :
    answersAlike g f.complete f'.complete := by
  cases f with
  | done t =>
    obtain rfl : f' = .done (withFuel g t) := h
    exact Machine.complete_answersAlike g t
  | halted t =>
    obtain rfl : f' = .halted (withFuel g t) := h
    rintro _ ⟨⟩
    rfl
  | stuck => rintro _ ⟨⟩

theorem dvmOp_answersAlike (g : Nat) (m : Mode) (s : State) :
    answersAlike g (dvmOp m s) (dvmOp m (withFuel g s)) := by
  simp only [dvmOp, peek_withFuel]
  split
  · rintro _ ⟨⟩
    rfl
  · simp

theorem complete_storeOp_answersAlike {g : Nat} {s : State} (hg : s.dmaFuel ≤ g) (k : Addressing) (m : Mode) :
    answersAlike g (storeOp k m s).complete (storeOp k m (withFuel g s)).complete :=
  Flow.complete_answersAlike (storeOp_endsAlike hg k m)

theorem exec_form_answersAlike {op : BaseOp} {m : Mode} (h : wellFormedForm op m = true) {g : Nat} {s : State}
    (hg : s.dmaFuel ≤ g) : answersAlike g (exec (form op m) s) (exec (form op m) (withFuel g s)) := by
  cases op with
  | pop => simp [exec_form_pop m _ h, popOp]
  | swp => simp [exec_form_swp, swpOp]
  | rot => simp [exec_form_rot, rotOp]
  | dup => simp [exec_form_dup, dupOp]
  | ovr => simp [exec_form_ovr, ovrOp]
  | equ => simp [exec_form_equ, equOp]
  | gth => simp [exec_form_gth, gthOp]
  | jmp => simp [exec_form_jmp, jmpOp]
  | jcn => simp [exec_form_jcn]
  | jsr => simp [exec_form_jsr, jsrOp]
  | sth => simp [exec_form_sth, sthOp]
  | ldz => simp [exec_form_ldz]
  | stz => simpa only [exec_form_stz] using complete_storeOp_answersAlike hg .zeroPage m
  | ldr => simp [exec_form_ldr]
  | str => simpa only [exec_form_str] using complete_storeOp_answersAlike hg .relative m
  | lda => simp [exec_form_lda]
  | sta => simpa only [exec_form_sta] using complete_storeOp_answersAlike hg .absolute m
  | pic => simp [exec_form_pic, picOp]
  | put => simp [exec_form_put, putOp]
  | adc => simp [exec_form_adc, adcOp]
  | sbc => simp [exec_form_sbc, sbcOp]
  | mul => simp [exec_form_mul, mulOp]
  | dvm => simpa only [exec_form_dvm] using dvmOp_answersAlike g m s
  | and => simp [exec_form_and, andOp]
  | ior => simp [exec_form_ior, iorOp]
  | xor => simp [exec_form_xor, xorOp]
  | sft => simp [exec_form_sft, sftOp]

theorem exec_answersAlike (i : Instr) {g : Nat} {s : State} (hg : s.dmaFuel ≤ g) :
    answersAlike g (exec i s) (exec i (withFuel g s)) := by
  rcases instr_cases i with
    ⟨st, w, imm, rfl⟩ | rfl | rfl | rfl | rfl | rfl | ⟨op, m, rfl⟩ | ⟨op, m, h, rfl⟩
  · simp [exec_litForm, pushLiteral]
  · exact complete_answersAlike g s
  · exact complete_answersAlike g (setCarry true s)
  · exact complete_answersAlike g (setCarry false s)
  · exact complete_answersAlike g (push8 .working 0x00 s)
  · exact complete_answersAlike g (returnWithFlags s)
  · simp [exec_reservedForm]
  · exact exec_form_answersAlike h hg

/-- Settles O20: the fetch writes nothing, and what it fetched ends alike. -/
theorem moreFuelChangesNoCompletedStep : Obligations.MoreFuelChangesNoCompletedStep := by
  unfold Obligations.MoreFuelChangesNoCompletedStep
  intro s t g hg h
  change step (withFuel g s) = .next (withFuel g t)
  by_cases hr : s.status = .running
  · rw [step_running hr] at h
    rw [step_running (withFuel_status g s ▸ hr), fetch_withFuel]
    obtain ⟨hkeeps, -, -⟩ := fetch_keeps s
    exact exec_answersAlike _ (hkeeps.dmaFuel.trans_le hg) t h
  · rw [step_stopped hr] at h
    cases h
    exact step_stopped hr

end Sys2Proof.Machine
end

section
/-! The encoding (30_encoding.md R90 to R98). The decoder reads an opcode byte by its fields, the encoder writes the
byte from the map of R95: the two agree group by group of the table of R94. With the literals, `decode` answers an
instruction exactly where the bytes begin with its encoding. -/

namespace Sys2Proof.Machine

/-! ## The fields of an opcode byte (R91) -/

@[simp] theorem opBits_opByte (n : Fin 32) (m : Mode) : opBits (opByte n m) = n := by
  obtain ⟨_ | _, _ | _, _ | _⟩ := m <;> revert n <;> decide

@[simp] theorem modeOf_opByte (n : Fin 32) (m : Mode) : modeOf (opByte n m) = m := by
  obtain ⟨_ | _, _ | _, _ | _⟩ := m <;> revert n <;> decide

/-- The two fields are the whole byte. -/
theorem opByte_opBits_modeOf (b : Byte) : opByte (opBits b) (modeOf b) = b := by
  revert b
  decide

/-! ## The table of operations (R94) -/

/-- The number of a base operation: the low five bits of its plain form's byte. -/
def baseNumber (op : BaseOp) : Fin 32 := opBits (opcodeByte (form op ⟨false, .working, .one⟩))

/-- The number of a reserved operation: the low five bits of its plain form's byte. -/
def reservedNumber (op : ReservedOp) : Fin 32 := opBits (opcodeByte (reservedForm op ⟨false, .working, .one⟩))

theorem opTable_eq_zero_iff {n : Fin 32} : opTable.get n = .zero ↔ n = 0 := by
  revert n
  decide

theorem opTable_eq_base_iff {n : Fin 32} {op : BaseOp} : opTable.get n = .base op ↔ n = baseNumber op := by
  revert n
  cases op <;> decide

theorem opTable_eq_reserved_iff {n : Fin 32} {op : ReservedOp} :
    opTable.get n = .reserved op ↔ n = reservedNumber op := by
  revert n
  cases op <;> decide

/-! ## The map of opcode bytes (R95), group by group -/

/-- POP with keep alone is RTI on both sides: `form` names it so, and the map gives RTI the byte of that mode. -/
theorem encode_form (op : BaseOp) (m : Mode) : encode (form op m) = [opByte (baseNumber op) m] := by
  cases op <;> obtain ⟨_ | _, _ | _, _ | _⟩ := m <;> rfl

theorem encode_reservedForm (op : ReservedOp) (m : Mode) :
    encode (reservedForm op m) = [opByte (reservedNumber op) m] := by
  cases op <;> obtain ⟨_ | _, _ | _, _ | _⟩ := m <;> rfl

theorem encode_opZero {m : Mode} (h : m.keep = false) : encode (opZero m) = [opByte 0 m] := by
  obtain ⟨_, _ | _, _ | _⟩ := m <;> cases h <;> rfl

theorem opcodeByte_litForm (st : StackId) (w : Width) (imm : BitVec w.bits) :
    opcodeByte (litForm st w imm) = opByte 0 ⟨true, st, w⟩ := by
  cases st <;> cases w <;> rfl

theorem encode_litForm_one (st : StackId) (v : Byte) :
    encode (litForm st .one v) = [opByte 0 ⟨true, st, .one⟩, v] := by
  cases st <;> rfl

theorem encode_litForm_two (st : StackId) (v : Addr) :
    encode (litForm st .two v) = [opByte 0 ⟨true, st, .two⟩, hiByte v, loByte v] := by
  cases st <;> rfl

/-! ## What the decoder reads off an opcode byte (R93) -/

/-- `0x83` needs no arm of its own: it is op 3 with keep alone, which `form` names RTI. -/
theorem decodeHead_of_base {b : Byte} {op : BaseOp} (h : opTable.get (opBits b) = .base op) :
    decodeHead b = .whole (form op (modeOf b)) := by
  by_cases hb : b = 0x83
  · subst hb
    cases (show OpGroup.base .pop = .base op from h)
    rfl
  · simp only [decodeHead, if_neg hb, h]

theorem decodeHead_of_reserved {b : Byte} {op : ReservedOp} (h : opTable.get (opBits b) = .reserved op) :
    decodeHead b = .whole (reservedForm op (modeOf b)) := by
  have hb : b ≠ 0x83 := by
    rintro rfl
    exact nomatch (show OpGroup.base .pop = .reserved op from h)
  simp only [decodeHead, if_neg hb, h]

theorem decodeHead_of_zero {b : Byte} (h : opTable.get (opBits b) = .zero) :
    decodeHead b =
      if (modeOf b).keep then .literal (modeOf b).stack (modeOf b).width else .whole (opZero (modeOf b)) := by
  have hb : b ≠ 0x83 := by
    rintro rfl
    exact nomatch (show OpGroup.base .pop = .zero from h)
  simp only [decodeHead, if_neg hb, h]

theorem decodeHead_opByte_base (op : BaseOp) (m : Mode) :
    decodeHead (opByte (baseNumber op) m) = .whole (form op m) := by
  rw [decodeHead_of_base (opTable_eq_base_iff.mpr (opBits_opByte _ m)), modeOf_opByte]

theorem decodeHead_opByte_reserved (op : ReservedOp) (m : Mode) :
    decodeHead (opByte (reservedNumber op) m) = .whole (reservedForm op m) := by
  rw [decodeHead_of_reserved (opTable_eq_reserved_iff.mpr (opBits_opByte _ m)), modeOf_opByte]

theorem decodeHead_opByte_lit (st : StackId) (w : Width) :
    decodeHead (opByte 0 ⟨true, st, w⟩) = .literal st w := by
  cases st <;> cases w <;> rfl

/-- The inversion of `decodeHead`: every byte is the encoding of a whole instruction, which it decodes to, or the
first byte of a LIT. -/
theorem decodeHead_cases (b : Byte) :
    (∃ i, decodeHead b = .whole i ∧ encode i = [b]) ∨ ∃ st w, b = opByte 0 ⟨true, st, w⟩ := by
  have hfields := opByte_opBits_modeOf b
  cases hg : opTable.get (opBits b) with
  | zero =>
    rw [opTable_eq_zero_iff.mp hg] at hfields
    cases hk : (modeOf b).keep with
    | true => exact .inr ⟨(modeOf b).stack, (modeOf b).width, by rw [← hk]; exact hfields.symm⟩
    | false =>
      exact .inl ⟨opZero (modeOf b), by simp [decodeHead_of_zero hg, hk],
        (encode_opZero hk).trans (congrArg ([·]) hfields)⟩
  | reserved op =>
    rw [opTable_eq_reserved_iff.mp hg] at hfields
    exact .inl ⟨_, decodeHead_of_reserved hg, by rw [encode_reservedForm, hfields]⟩
  | base op =>
    rw [opTable_eq_base_iff.mp hg] at hfields
    exact .inl ⟨_, decodeHead_of_base hg, by rw [encode_form, hfields]⟩

theorem encode_of_decodeHead_whole {b : Byte} {i : Instr} (h : decodeHead b = .whole i) : encode i = [b] := by
  rcases decodeHead_cases b with ⟨j, hj, henc⟩ | ⟨st, w, rfl⟩
  · cases h.symm.trans hj
    exact henc
  · exact nomatch h.symm.trans (decodeHead_opByte_lit st w)

theorem decodeHead_eq_literal_iff {b : Byte} {st : StackId} {w : Width} :
    decodeHead b = .literal st w ↔ b = opByte 0 ⟨true, st, w⟩ := by
  constructor
  · intro h
    rcases decodeHead_cases b with ⟨i, hi, -⟩ | ⟨st', w', rfl⟩
    · exact nomatch h.symm.trans hi
    · cases h.symm.trans (decodeHead_opByte_lit st' w')
      rfl
  · rintro rfl
    exact decodeHead_opByte_lit st w

/-- Every instruction is a LIT, or is what the decoder reads off one byte. -/
theorem instr_is_lit_or_whole (i : Instr) :
    (∃ st w imm, i = litForm st w imm) ∨ ∃ b, decodeHead b = .whole i := by
  rcases instr_cases i with
    hlit | rfl | rfl | rfl | rfl | rfl | ⟨op, m, rfl⟩ | ⟨op, m, -, rfl⟩
  · exact .inl hlit
  · exact .inr ⟨0x00, rfl⟩
  · exact .inr ⟨0x20, rfl⟩
  · exact .inr ⟨0x40, rfl⟩
  · exact .inr ⟨0x60, rfl⟩
  · exact .inr ⟨0x83, rfl⟩
  · exact .inr ⟨_, decodeHead_opByte_reserved op m⟩
  · exact .inr ⟨_, decodeHead_opByte_base op m⟩

/-! ## Decoding, by what the first byte says (R90, R96) -/

theorem decode_cons_of_whole {b : Byte} {i : Instr} (h : decodeHead b = .whole i) (bs : List Byte) :
    decode (b :: bs) = .ok (i, bs) := by
  simp only [decode, h]

theorem decode_cons_of_literal_one {b : Byte} {st : StackId} (h : decodeHead b = .literal st .one) (v : Byte)
    (bs : List Byte) : decode (b :: v :: bs) = .ok (litForm st .one v, bs) := by
  simp only [decode, h]

theorem decode_cons_of_literal_two {b : Byte} {st : StackId} (h : decodeHead b = .literal st .two) (hi lo : Byte)
    (bs : List Byte) : decode (b :: hi :: lo :: bs) = .ok (litForm st .two (hiLo hi lo), bs) := by
  simp only [decode, h]

/-- The literal of LIT2 is written high byte first and read so (R96), whatever bytes follow. -/
theorem decode_encode_append (i : Instr) (rest : List Byte) : decode (encode i ++ rest) = .ok (i, rest) := by
  rcases instr_is_lit_or_whole i with ⟨st, w, imm, rfl⟩ | ⟨b, hb⟩
  · cases w with
    | one =>
      rw [encode_litForm_one]
      exact decode_cons_of_literal_one (decodeHead_opByte_lit st .one) imm rest
    | two =>
      rw [encode_litForm_two]
      simpa using decode_cons_of_literal_two (decodeHead_opByte_lit st .two) (hiByte imm) (loByte imm) rest
  · rw [encode_of_decodeHead_whole hb]
    exact decode_cons_of_whole hb rest

/-- The inversion of `decode`: it answers nothing but what the bytes begin with. -/
theorem eq_encode_append_of_decode {bs rest : List Byte} {i : Instr} (h : decode bs = .ok (i, rest)) :
    bs = encode i ++ rest := by
  cases bs with
  | nil => exact nomatch h
  | cons b bs =>
    cases hb : decodeHead b with
    | whole j =>
      cases h.symm.trans (decode_cons_of_whole hb bs)
      rw [encode_of_decodeHead_whole hb]
      rfl
    | literal st w =>
      obtain rfl := decodeHead_eq_literal_iff.mp hb
      match w, bs with
      | .one, v :: bs =>
        cases h.symm.trans (decode_cons_of_literal_one hb v bs)
        rw [encode_litForm_one]
        rfl
      | .two, hi :: lo :: bs =>
        cases h.symm.trans (decode_cons_of_literal_two hb hi lo bs)
        rw [encode_litForm_two, hiByte_hiLo, loByte_hiLo]
        rfl
      | .one, [] | .two, [] | .two, [_] => simp [decode, hb] at h

/-! ## Lengths (R90) -/

theorem instrLength_of_whole {b : Byte} {i : Instr} (h : decodeHead b = .whole i) : instrLength b = 1 := by
  simp only [instrLength, h]

theorem instrLength_of_literal {b : Byte} {st : StackId} {w : Width} (h : decodeHead b = .literal st w) :
    instrLength b = 1 + w.bytes := by
  simp only [instrLength, h]

theorem encode_length (i : Instr) : (encode i).length = instrLength (opcodeByte i) := by
  rcases instr_is_lit_or_whole i with ⟨st, w, imm, rfl⟩ | ⟨b, hb⟩
  · rw [opcodeByte_litForm, instrLength_of_literal (decodeHead_opByte_lit st w)]
    cases w with
    | one => rw [encode_litForm_one]; rfl
    | two => rw [encode_litForm_two]; rfl
  · have henc := encode_of_decodeHead_whole hb
    rw [henc, (List.cons.inj henc).1, instrLength_of_whole hb]
    rfl

/-- As many bytes as the first one says are always the encoding of an instruction (R98). -/
theorem exists_encode_of_wellFormedBytes {bs : List Byte} (h : wellFormedBytes bs = true) :
    ∃ i, encode i = bs := by
  cases bs with
  | nil => exact nomatch h
  | cons b bs =>
    have hlen : bs.length + 1 = instrLength b := beq_iff_eq.mp h
    cases hb : decodeHead b with
    | whole i =>
      obtain rfl : bs = [] := List.length_eq_zero_iff.mp (by rw [instrLength_of_whole hb] at hlen; omega)
      exact ⟨i, encode_of_decodeHead_whole hb⟩
    | literal st w =>
      obtain rfl := decodeHead_eq_literal_iff.mp hb
      rw [instrLength_of_literal hb, Nat.add_comm, Nat.add_left_cancel_iff] at hlen
      cases w with
      | one =>
        obtain ⟨v, rfl⟩ := List.length_eq_one_iff.mp hlen
        exact ⟨litForm st .one v, encode_litForm_one st v⟩
      | two =>
        obtain ⟨hi, lo, rfl⟩ := List.length_eq_two.mp hlen
        exact ⟨litForm st .two (hiLo hi lo), by rw [encode_litForm_two, hiByte_hiLo, loByte_hiLo]⟩

/-- Only LIT is longer than its opcode byte, and its four opcode bytes are op 0 with keep (R93). -/
theorem instrLength_eq (b : Byte) :
    instrLength b = if b = 0x80 ∨ b = 0xC0 then 2 else if b = 0xA0 ∨ b = 0xE0 then 3 else 1 := by
  cases hb : decodeHead b with
  | whole i =>
    have hlit : ∀ st w, b ≠ opByte 0 ⟨true, st, w⟩ := fun st w h =>
      nomatch hb.symm.trans (decodeHead_eq_literal_iff.mpr h)
    have hone : ¬ (b = 0x80 ∨ b = 0xC0) := not_or.mpr ⟨hlit .working .one, hlit .ret .one⟩
    have htwo : ¬ (b = 0xA0 ∨ b = 0xE0) := not_or.mpr ⟨hlit .working .two, hlit .ret .two⟩
    rw [instrLength_of_whole hb, if_neg hone, if_neg htwo]
  | literal st w =>
    obtain rfl := decodeHead_eq_literal_iff.mp hb
    rw [instrLength_of_literal hb]
    cases st <;> cases w <;> rfl

/-! ## The statements -/

/-- Settles O1: it holds of every instruction, since every instruction is well formed. -/
theorem decodeOfEncodeIsTheInstruction : Obligations.DecodeOfEncodeIsTheInstruction :=
  fun i rest _ => decode_encode_append i rest

/-- Settles O2: the bytes are an encoding, and an encoding decodes to its instruction. -/
theorem encodeOfDecodeIsTheBytes : Obligations.EncodeOfDecodeIsTheBytes := by
  unfold Obligations.EncodeOfDecodeIsTheBytes
  intro bs h
  obtain ⟨i, rfl⟩ := exists_encode_of_wellFormedBytes h
  exact ⟨i, by simpa using decode_encode_append i [], rfl⟩

/-- Settles O3: the bytes a decode takes are an encoding, which is as long as its first byte says. -/
theorem instructionLengthByOpcodeByte : Obligations.InstructionLengthByOpcodeByte := by
  unfold Obligations.InstructionLengthByOpcodeByte
  refine ⟨instrLength_eq, fun b bs rest i h => ?_⟩
  have hbytes := eq_encode_append_of_decode h
  obtain ⟨rfl, -⟩ := List.cons.inj hbytes
  rw [hbytes, List.length_append, encode_length]

/-- Settles O4: each word is the encoding of its instruction, which decodes back; the map of R95 gives the word. -/
theorem writtenOutWordsDecode : Obligations.WrittenOutWordsDecode :=
  ⟨decode_encode_append .nop [], decode_encode_append .sec [], decode_encode_append .clc [],
    decode_encode_append .ext [], decode_encode_append .rti [], decode_encode_append (.lit 0x12) [],
    decode_encode_append (.lit2 0x1234) [], decode_encode_append .pop2k [], decode_encode_append .jmp2r [],
    decode_encode_append .sta2 [], decode_encode_append .adc2kr [], decode_encode_append .rsvAF []⟩

end Sys2Proof.Machine
end

section
/-! The cycle (40_cycle.md R110 to R112; 00_scope.md R10): a stopped machine stays as it is, and a running one executes
what the bytes at `pc` stand for, whether they are in RAM or a device answers them. -/

namespace Sys2Proof.Machine

/-- Settles O6: the step answers the same state, so the driver reads the same status off it. -/
theorem stoppedStepChangesNothing : Obligations.StoppedStepChangesNothing := by
  unfold Obligations.StoppedStepChangesNothing
  intro s hs
  have hstep := step_stopped hs
  exact ⟨hstep, by simp only [driverResult, hstep]⟩

/-! ## The fetch -/

/-- An opcode byte that is a whole instruction is all that the fetch reads. -/
theorem fetch_of_whole {s : State} {i : Instr} (h : decodeHead (read8 s.pc s).1 = .whole i) :
    fetch s = (i, (read8 s.pc s).2) := by
  simp only [fetch, h]

/-- The encoding of an instruction, where it stands in RAM at `pc`, is fetched as that instruction and with no
effect (20_memory.md R55, 30_encoding.md R96). -/
theorem fetch_of_bytesAt_encode {i : Instr} {s : State} (h : bytesAt s.pc (encode i) s) : fetch s = (i, s) := by
  rcases instr_is_lit_or_whole i with ⟨st, w, imm, rfl⟩ | ⟨b, hb⟩
  · have hhead := decodeHead_opByte_lit st w
    cases w with
    | one =>
      rw [encode_litForm_one] at h
      obtain ⟨hram, hop, hram1, hlit, -⟩ := h
      simp only [fetch, fetchLiteral, memRead, read8_ram hram, hop, hhead, read8_ram hram1, hlit]
    | two =>
      rw [encode_litForm_two] at h
      obtain ⟨hram, hop, hram1, hhi, hram2, hlo, -⟩ := h
      simp only [fetch, fetchLiteral, memRead, read16, read8_ram hram, hop, hhead, read8_ram hram1, hhi,
        read8_ram hram2, hlo, hiLo_hiByte_loByte]
  · rw [encode_of_decodeHead_whole hb] at h
    obtain ⟨hram, rfl, -⟩ := h
    exact fetch_ram_whole hram hb

/-- Settles O7: bytes that decode with nothing left are the instruction's encoding, which is fetched as it. -/
theorem stepRunsTheDecodedInstruction : Obligations.StepRunsTheDecodedInstruction := by
  unfold Obligations.StepRunsTheDecodedInstruction
  intro s bs i hrun hbytes hdecode _
  obtain rfl : bs = encode i := (eq_encode_append_of_decode hdecode).trans (List.append_nil _)
  rw [step_running hrun, fetch_of_bytesAt_encode hbytes]

/-! ## An opcode in the device region -/

/-- Settles O8: zero is the byte of NOP, and any other one-byte opcode is all that is read. -/
theorem fetchInTheDeviceRegion : Obligations.FetchInTheDeviceRegion := by
  unfold Obligations.FetchInTheDeviceRegion
  intro s hrun hdev
  refine ⟨fun hp => ?_, fun hp i hi => ?_⟩
  · have hread := read8_absent hdev hp
    have hnop : decodeHead 0x00 = .whole .nop := rfl
    rw [step_running hrun, fetch_of_whole (by rw [hread, hnop]), hread]
    rfl
  · have hread := read8_present hdev hp
    have hwhole : decodeHead (read8 s.pc s).1 = .whole i := by rwa [hread]
    rw [step_running hrun, fetch_of_whole hwhole, hread]

end Sys2Proof.Machine
end

section
/-! The program counter (40_cycle.md R118, R121). No operation of an instruction moves `pc` but a jump, a literal and
a return, so what completes is one past the opcode. What does not complete, the exception and a store that halts
the machine, leaves a machine that does not run. -/

namespace Sys2Proof.Machine

/-! ## Operations that leave `pc` -/

@[simp] theorem take_pc (m : Mode) (w : Width) (cur : Nat) (s : State) : (take m w cur s).2.pc = s.pc := by
  unfold take
  split
  · rfl
  · rw [pop_eq, setSp_pc]

@[simp] theorem takePair_pc (m : Mode) (s : State) : (takePair m s).rest.pc = s.pc :=
  (take_pc m _ _ _).trans (take_pc m _ _ s)

@[simp] theorem memRead_pc (w : Width) (a : Addr) (s : State) : (memRead w a s).2.pc = s.pc :=
  (memRead_keeps w a s).1.pc

@[simp] theorem loadOp_pc (k : Addressing) (m : Mode) (s : State) : (loadOp k m s).pc = s.pc := by
  simp only [loadOp, push_pc, memRead_pc, take_pc]

/-! ## The ends of an instruction -/

/-- An answer that goes on at the next byte, where the machine still runs after it (40_cycle.md R121). -/
def goesToNextByte (s : State) (r : Answer) : Prop :=
  ∀ t, r = .next t → t.status = .running → t.pc = s.pc + 1

theorem complete_goesToNextByte {s u : State} (h : u.pc = s.pc) : goesToNextByte s (complete u) := by
  rintro _ ⟨⟩ -
  rw [setPc_pc, h]

/-- A store that halted the machine is the one that stays at its opcode. -/
theorem complete_storeOp_goesToNextByte (k : Addressing) (m : Mode) (s : State) :
    goesToNextByte s (storeOp k m s).complete := by
  intro t h hrun
  obtain ⟨-, -, -, -, -, hdone | ⟨⟨code, hhalted⟩, -⟩⟩ := complete_storeOp_keeps h
  · exact hdone.2
  · exact nomatch hrun.symm.trans hhalted

theorem dvmOp_goesToNextByte (m : Mode) (s : State) : goesToNextByte s (dvmOp m s) := by
  unfold dvmOp
  split
  · rintro _ ⟨⟩ hrun
    exact nomatch hrun
  · exact complete_goesToNextByte (by simp)

/-! ## The instructions -/

theorem movesPc_form {op : BaseOp} (h : op ∈ [BaseOp.jmp, .jcn, .jsr]) (m : Mode) : movesPc (form op m) :=
  .inr (.inr ⟨op, m, h, rfl⟩)

theorem exec_form_goesToNextByte {op : BaseOp} {m : Mode} (h : wellFormedForm op m = true)
    (hplain : ¬ movesPc (form op m)) (s : State) : goesToNextByte s (exec (form op m) s) := by
  cases op with
  | pop => rw [exec_form_pop m s h]; exact complete_goesToNextByte (by simp [popOp])
  | swp => rw [exec_form_swp]; exact complete_goesToNextByte (by simp [swpOp])
  | rot => rw [exec_form_rot]; exact complete_goesToNextByte (by simp [rotOp])
  | dup => rw [exec_form_dup]; exact complete_goesToNextByte (by simp [dupOp])
  | ovr => rw [exec_form_ovr]; exact complete_goesToNextByte (by simp [ovrOp])
  | equ => rw [exec_form_equ]; exact complete_goesToNextByte (by simp [equOp])
  | gth => rw [exec_form_gth]; exact complete_goesToNextByte (by simp [gthOp])
  | jmp | jcn | jsr => exact absurd (movesPc_form (by decide) m) hplain
  | sth => rw [exec_form_sth]; exact complete_goesToNextByte (by simp [sthOp])
  | ldz => rw [exec_form_ldz]; exact complete_goesToNextByte (loadOp_pc _ m s)
  | stz => rw [exec_form_stz]; exact complete_storeOp_goesToNextByte _ m s
  | ldr => rw [exec_form_ldr]; exact complete_goesToNextByte (loadOp_pc _ m s)
  | str => rw [exec_form_str]; exact complete_storeOp_goesToNextByte _ m s
  | lda => rw [exec_form_lda]; exact complete_goesToNextByte (loadOp_pc _ m s)
  | sta => rw [exec_form_sta]; exact complete_storeOp_goesToNextByte _ m s
  | pic => rw [exec_form_pic]; exact complete_goesToNextByte (by simp [picOp])
  | put => rw [exec_form_put]; exact complete_goesToNextByte (by simp [putOp])
  | adc => rw [exec_form_adc]; exact complete_goesToNextByte (by simp [adcOp])
  | sbc => rw [exec_form_sbc]; exact complete_goesToNextByte (by simp [sbcOp])
  | mul => rw [exec_form_mul]; exact complete_goesToNextByte (by simp [mulOp])
  | dvm => rw [exec_form_dvm]; exact dvmOp_goesToNextByte m s
  | and => rw [exec_form_and]; exact complete_goesToNextByte (by simp [andOp])
  | ior => rw [exec_form_ior]; exact complete_goesToNextByte (by simp [iorOp])
  | xor => rw [exec_form_xor]; exact complete_goesToNextByte (by simp [xorOp])
  | sft => rw [exec_form_sft]; exact complete_goesToNextByte (by simp [sftOp])

/-- Settles O10: the single bytes and the reserved no-ops move nothing before they complete, LIT and RTI are left
out, and the forms are the lemma above. -/
theorem plainInstructionsGoToTheNextByte : Obligations.PlainInstructionsGoToTheNextByte := by
  unfold Obligations.PlainInstructionsGoToTheNextByte
  intro i s t _ h hrun hplain
  suffices hnext : goesToNextByte s (exec i s) from hnext t h hrun
  rcases instr_cases i with
    ⟨st, w, imm, rfl⟩ | rfl | rfl | rfl | rfl | rfl | ⟨op, m, rfl⟩ | ⟨op, m, hform, rfl⟩
  · exact absurd (.inl ⟨st, w, imm, rfl⟩) hplain
  · exact complete_goesToNextByte rfl
  · exact complete_goesToNextByte (setCarry_pc true s)
  · exact complete_goesToNextByte (setCarry_pc false s)
  · exact complete_goesToNextByte (push8_pc .working 0x00 s)
  · exact absurd (.inr (.inl rfl)) hplain
  · rw [exec_reservedForm]
    exact complete_goesToNextByte rfl
  · exact exec_form_goesToNextByte hform hplain s

end Sys2Proof.Machine
end

section
/-! The frame of the operations on one stack (40_cycle.md R113, R116). One relation counts the cells taken and the cells
pushed so far; each operation of an instruction extends it by a lemma of its own, and an instruction's frame is the
chain of what it does. The flags are not part of the relation: they are already known for every instruction, and
what remains is which forms write them. -/

namespace Sys2Proof.Machine

/-! ## Forms are told apart by their bytes (R93) -/

theorem baseNumber_inj {op op' : BaseOp} (h : baseNumber op = baseNumber op') : op = op' := by
  have hop : opTable.get (baseNumber op) = .base op := opTable_eq_base_iff.mpr rfl
  rw [h, opTable_eq_base_iff.mpr rfl] at hop
  injection hop with hop
  exact hop.symm

theorem baseNumber_ne_zero (op : BaseOp) : baseNumber op ≠ 0 := by
  intro h
  have hzero := opTable_eq_zero_iff.mpr h
  rw [opTable_eq_base_iff.mpr rfl] at hzero
  exact nomatch hzero

theorem opcodeByte_form (op : BaseOp) (m : Mode) : opcodeByte (form op m) = opByte (baseNumber op) m :=
  (List.cons.inj (encode_form op m)).1

theorem form_inj {op op' : BaseOp} {m m' : Mode} (h : form op m = form op' m') : op = op' ∧ m = m' := by
  have hbyte := congrArg opcodeByte h
  rw [opcodeByte_form, opcodeByte_form] at hbyte
  have hop := congrArg opBits hbyte
  have hm := congrArg modeOf hbyte
  rw [opBits_opByte, opBits_opByte] at hop
  rw [modeOf_opByte, modeOf_opByte] at hm
  exact ⟨baseNumber_inj hop, hm⟩

/-- NOP, SEC, CLC and EXT are no forms of a base operation. -/
theorem form_ne_opZero {m' : Mode} (h : m'.keep = false) (op : BaseOp) (m : Mode) : form op m ≠ opZero m' := by
  intro heq
  have hop := congrArg (opBits ∘ opcodeByte) heq
  rw [Function.comp, Function.comp, opcodeByte_form, (List.cons.inj (encode_opZero h)).1, opBits_opByte] at hop
  exact baseNumber_ne_zero op (hop.trans (opBits_opByte 0 m'))

/-- RTI has the byte of POP with keep alone, which is no form of POP. -/
theorem form_ne_rti {op : BaseOp} {m : Mode} (h : wellFormedForm op m = true) : form op m ≠ .rti := by
  intro heq
  obtain ⟨rfl, rfl⟩ := form_inj (op' := .pop) (m' := ⟨true, .working, .one⟩) heq
  exact absurd h (by decide)

/-- Of the forms, those of ADC and SBC alone write a flag (10_state.md R25). -/
theorem form_not_writesCarry {op : BaseOp} (hadc : op ≠ .adc) (hsbc : op ≠ .sbc) (m : Mode) :
    ¬ writesCarry (form op m) := by
  rintro (h | h | ⟨m', h | h⟩)
  · exact form_ne_opZero (m' := ⟨false, .working, .two⟩) rfl op m h
  · exact form_ne_opZero (m' := ⟨false, .ret, .one⟩) rfl op m h
  · exact hadc (form_inj h).1
  · exact hsbc (form_inj h).1

/-! ## The relation -/

theorem pushedCell_of_lt {st : StackId} {i : Byte} {p n b : Nat} (h : pushedCell st i p b) :
    pushedCell st i (p + n) b := by
  obtain ⟨k, hk, hb⟩ := h
  exact ⟨k, by omega, hb⟩

/-- Cells pushed after `p` others are among the cells pushed. -/
theorem pushedCell_of_sub {st : StackId} {i : Byte} {p n b : Nat}
    (h : pushedCell st (i - BitVec.ofNat 8 p) n b) : pushedCell st i (p + n) b := by
  obtain ⟨k, hk, hb⟩ := h
  refine ⟨p + k, by omega, ?_⟩
  rw [hb, BitVec.ofNat_add]
  congr 2
  bv_omega

theorem sameBus_refl (s : State) : sameBus s s := ⟨rfl, rfl, rfl, rfl, rfl, rfl, rfl⟩

theorem sameBus_trans {s t u : State} (h : sameBus s t) (h' : sameBus t u) : sameBus s u := by
  obtain ⟨hsource, hslots, hstatus, hreads, hwrites, htrace, hfuel⟩ := h
  obtain ⟨hsource', hslots', hstatus', hreads', hwrites', htrace', hfuel'⟩ := h'
  exact ⟨hsource'.trans hsource, hslots'.trans hslots, hstatus'.trans hstatus, hreads'.trans hreads,
    hwrites'.trans hwrites, htrace'.trans htrace, hfuel'.trans hfuel⟩

/-- From `s` to `t`, `taken` cells of the mode's stack were taken and after them `pushed` cells pushed onto it, and
nothing else was done to the stacks, to RAM or to the bus. -/
structure OwnFrame (m : Mode) (taken pushed : Nat) (s t : State) : Prop where
  own : sp m.stack t = sp m.stack (dropCells m taken s) - BitVec.ofNat 8 pushed
  other : sp m.stack.other t = sp m.stack.other s
  bus : sameBus s t
  ram : ∀ b, ¬ pushedCell m.stack (sp m.stack (dropCells m taken s)) pushed b → t.ram.read b = s.ram.read b

namespace OwnFrame

variable {m : Mode} {c p : Nat} {s t u : State}

theorem refl (m : Mode) (s : State) : OwnFrame m 0 0 s s where
  own := by rw [dropCells_zero, BitVec.sub_zero]
  other := rfl
  bus := sameBus_refl s
  ram _ _ := rfl

/-- An update of `pc` or the flags is outside the frame. -/
theorem of_same_stacks (h : OwnFrame m c p s t) (hsp : ∀ st, sp st u = sp st t) (hbus : sameBus t u)
    (hram : u.ram = t.ram) : OwnFrame m c p s u where
  own := (hsp _).trans h.own
  other := (hsp _).trans h.other
  bus := sameBus_trans h.bus hbus
  ram b hb := by rw [hram, h.ram b hb]

/-! ## One lemma per operation -/

theorem setPc {a : Addr} (h : OwnFrame m c p s t) : OwnFrame m c p s (setPc a t) :=
  h.of_same_stacks (fun st => sp_setPc st a t) (sameBus_refl t) rfl

theorem setCarry {x : Bool} (h : OwnFrame m c p s t) : OwnFrame m c p s (setCarry x t) :=
  h.of_same_stacks (fun st => sp_setCarry st x t) (sameBus_refl t) rfl

/-- Takes come before pushes. -/
theorem take {w : Width} {cur : Nat} (h : OwnFrame m c 0 s t) :
    OwnFrame m (c + w.bytes) 0 s (take m w cur t).2 := by
  have hram : ∀ b, t.ram.read b = s.ram.read b := fun b =>
    h.ram b fun ⟨_, hlt, _⟩ => absurd hlt (Nat.not_lt_zero _)
  have hown := h.own
  rw [BitVec.sub_zero, sp_dropCells] at hown
  unfold Machine.take
  split
  · next hkeep =>
    rw [if_pos hkeep] at hown
    exact ⟨by rw [BitVec.sub_zero, sp_dropCells, if_pos hkeep, hown], h.other, h.bus, fun b _ => hram b⟩
  · next hkeep =>
    rw [if_neg hkeep] at hown
    rw [pop_eq]
    refine ⟨?_, (sp_setSp_other _ _ t).trans h.other, sameBus_trans h.bus (by simp [sameBus]), fun b _ => ?_⟩
    · rw [BitVec.sub_zero, sp_setSp_same, sp_dropCells, if_neg hkeep, hown, BitVec.add_assoc, BitVec.ofNat_add]
    · rw [setSp_ram, hram b]

theorem takePair (h : OwnFrame m c 0 s t) :
    OwnFrame m (c + m.width.bytes + m.width.bytes) 0 s (takePair m t).rest := h.take.take

theorem target (h : OwnFrame m c 0 s t) : OwnFrame m (c + m.width.bytes) 0 s (target m t).2 := h.take

theorem push {w : Width} {v : BitVec w.bits} (h : OwnFrame m c p s t) :
    OwnFrame m c (p + w.bytes) s (push w m.stack v t) where
  own := by
    rw [sp_push, h.own, BitVec.ofNat_add]
    bv_omega
  other := (sp_other_push w m.stack v t).trans h.other
  bus := sameBus_trans h.bus (by simp [sameBus])
  ram b hb := by
    have hbefore := h.ram b fun hcell => hb (pushedCell_of_lt hcell)
    have hpush : ¬ pushedCell m.stack (sp m.stack t) w.bytes b := by
      rw [h.own]
      exact fun hcell => hb (pushedCell_of_sub hcell)
    exact (push_ram_read_of_not_pushedCell hpush).trans hbefore

/-! ## The end of an instruction -/

/-- A completed instruction, with its chain of takes and pushes counted as the statement counts them. -/
theorem complete {op : BaseOp} (h : OwnFrame m c p s u)
    (htaken : c = cellsTaken op m.width.bytes := by simp only [cellsTaken, Width.bytes] <;> omega)
    (hpushed : p = cellsPushed op m.width.bytes := by simp only [cellsPushed, Width.bytes] <;> omega) :
    ∀ t, complete u = .next t → OwnFrame m (cellsTaken op m.width.bytes) (cellsPushed op m.width.bytes) s t := by
  rintro _ ⟨⟩
  rw [← htaken, ← hpushed]
  exact h.setPc

end OwnFrame

/-! ## The instructions -/

/-- The zero page and the byte after it are RAM, so LDZ meets no device (44_memory_access.md R190). -/
theorem memRead_zext16 (w : Width) (o : Byte) (s : State) : (memRead w (zext16 o) s).2 = s := by
  obtain ⟨hfirst, hsecond⟩ := zext16_isRam o
  cases w with
  | one => simp only [memRead, read8_ram hfirst]
  | two => simp only [memRead, read16, read8_ram hfirst, read8_ram hsecond]

theorem loadOp_zeroPage_ownFrame (m : Mode) (s : State) :
    OwnFrame m (0 + 1) (0 + m.width.bytes) s (loadOp .zeroPage m s) := by
  have htaken : OwnFrame m (0 + 1) 0 s (take m .one 0 s).2 := (OwnFrame.refl m s).take (w := .one)
  refine OwnFrame.push ?_
  change OwnFrame m _ _ s (memRead m.width (zext16 (take m .one 0 s).1) (take m .one 0 s).2).2
  rw [memRead_zext16]
  exact htaken

/-- Taken or not, JCN takes the same cells. -/
theorem jcnOp_ownFrame (m : Mode) (s : State) : OwnFrame m (0 + m.width.bytes + 1) 0 s (jcnOp m s) := by
  have htaken : OwnFrame m (0 + m.width.bytes + 1) 0 s (take m .one m.width.bytes (target m s).2).2 :=
    (OwnFrame.refl m s).target.take (w := .one)
  unfold jcnOp
  dsimp only
  split
  · exact htaken.setPc
  · exact htaken

theorem exec_form_ownFrame {op : BaseOp} {m : Mode} {s : State} (hop : op ∈ ownStackOps)
    (h : wellFormedForm op m = true) (hdiv : op = .dvm → top m s ≠ 0) :
    ∀ t, exec (form op m) s = .next t →
      OwnFrame m (cellsTaken op m.width.bytes) (cellsPushed op m.width.bytes) s t := by
  have hs := OwnFrame.refl m s
  cases op with
  | pop => rw [exec_form_pop m s h]; exact hs.take.complete
  | swp => rw [exec_form_swp]; exact hs.takePair.push.push.complete
  | rot => rw [exec_form_rot]; exact hs.takePair.take.push.push.push.complete
  | dup => rw [exec_form_dup]; exact hs.take.push.push.complete
  | ovr => rw [exec_form_ovr]; exact hs.takePair.push.push.push.complete
  | equ => rw [exec_form_equ]; exact (hs.takePair.push (w := .one)).complete
  | gth => rw [exec_form_gth]; exact (hs.takePair.push (w := .one)).complete
  | jmp => rw [exec_form_jmp]; exact hs.target.setPc.complete
  | jcn => rw [exec_form_jcn]; exact (jcnOp_ownFrame m s).complete
  | ldz => rw [exec_form_ldz]; exact (loadOp_zeroPage_ownFrame m s).complete
  | pic => rw [exec_form_pic]; exact hs.take.push.complete
  | adc => rw [exec_form_adc]; exact hs.takePair.push.setCarry.complete
  | sbc => rw [exec_form_sbc]; exact hs.takePair.push.setCarry.complete
  | mul => rw [exec_form_mul]; exact hs.takePair.push.complete
  | dvm =>
    have hnonzero : ¬ peek m.width m.stack 0 s = 0 := hdiv rfl
    rw [exec_form_dvm, dvmOp, if_neg hnonzero]
    exact hs.takePair.push.push.complete
  | and => rw [exec_form_and]; exact hs.takePair.push.complete
  | ior => rw [exec_form_ior]; exact hs.takePair.push.complete
  | xor => rw [exec_form_xor]; exact hs.takePair.push.complete
  | sft => rw [exec_form_sft]; exact hs.take.take.push.complete
  | jsr | sth | stz | ldr | str | lda | sta | put => exact absurd hop (by decide)

/-- Settles O44: the stacks, RAM and the bus are the frame, and the flags are known for every instruction. -/
theorem ownStackFrame : Obligations.OwnStackFrame := by
  unfold Obligations.OwnStackFrame
  intro op hop m s t hform hdiv h
  have hframe := exec_form_ownFrame hop hform hdiv t h
  have hrti := form_ne_rti hform
  obtain ⟨-, hbits⟩ := flagsChangeOnlyAsListed (form op m) s t h
  refine ⟨?_, hframe.other, hframe.bus, hframe.ram,
    fun hadc hsbc => exec_keeps_flags hrti (form_not_writesCarry hadc hsbc m) h, hbits hrti⟩
  rw [hframe.own, sp_dropCells]
  cases m.keep with
  | false => rfl
  | true => simp

end Sys2Proof.Machine
end

section
/-! LIT, the reserved no-ops, SEC, CLC, EXT and NOP (41_literal_flags_nop.md R140 to R145). Each is the end of an
instruction after at most one push or one flag written; what is left to say is which bytes decode to it, and for
LIT where the fetch reads the literal. -/

namespace Sys2Proof.Machine

/-! ## LIT (R140) -/

/-- The literal moves `pc` to its last byte, and the increment past it. -/
theorem complete_pushLiteral (st : StackId) (w : Width) (imm : BitVec w.bits) (s : State) :
    complete (pushLiteral st w imm s) = .next (setPc (s.pc + BitVec.ofNat 16 (w.bytes + 1)) (push w st imm s)) := by
  rw [complete, pushLiteral, setPc_setPc, setPc_pc, BitVec.add_assoc, BitVec.ofNat_add]
  rfl

@[simp] theorem read8_pc (a : Addr) (s : State) : (read8 a s).2.pc = s.pc := memRead_pc .one a s

/-- After the opcode byte of a LIT the fetch reads the literal at the next address, in the state which the first
read left. -/
theorem fetch_of_literal {s : State} {st : StackId} {w : Width} (h : decodeHead (read8 s.pc s).1 = .literal st w) :
    fetch s = (litForm st w (memRead w (s.pc + 1) (read8 s.pc s).2).1, (memRead w (s.pc + 1) (read8 s.pc s).2).2) := by
  simp only [fetch, h, fetchLiteral, read8_pc]

/-- Settles O9: op 0 with keep is LIT, and neither read of the fetch moves `pc`. -/
theorem litPushesTheBytesAfterTheOpcode : Obligations.LitPushesTheBytesAfterTheOpcode := by
  unfold Obligations.LitPushesTheBytesAfterTheOpcode
  refine ⟨⟨decodeHead_opByte_lit .working .one, decodeHead_opByte_lit .working .two,
    decodeHead_opByte_lit .ret .one, decodeHead_opByte_lit .ret .two⟩, fun st w imm s => ?_,
    fun st w s hrun hlit => ?_⟩
  · rw [exec_litForm, complete_pushLiteral]
  · rw [step_running hrun, fetch_of_literal hlit, exec_litForm, complete_pushLiteral, memRead_pc, read8_pc]

/-! ## The reserved no-ops (R145) -/

/-- The four numbers of R145 are the numbers of the reserved operations. -/
theorem exists_reservedNumber_of_mem {n : Fin 32} (h : n.val ∈ [1, 2, 14, 15]) : ∃ op, n = reservedNumber op := by
  simp only [List.mem_cons, List.not_mem_nil, or_false] at h
  rcases h with h | h | h | h
  · exact ⟨.op1, Fin.ext h⟩
  · exact ⟨.op2, Fin.ext h⟩
  · exact ⟨.opE, Fin.ext h⟩
  · exact ⟨.opF, Fin.ext h⟩

/-- Settles O5: the table reserves those bytes, and a reserved no-op only completes. -/
theorem reservedBytesAreNoOps : Obligations.ReservedBytesAreNoOps := by
  unfold Obligations.ReservedBytesAreNoOps
  refine ⟨fun b hb => ?_, fun op m s => exec_reservedForm op m s⟩
  obtain ⟨op, hop⟩ := exists_reservedNumber_of_mem hb
  exact ⟨op, modeOf b, decodeHead_of_reserved (opTable_eq_reserved_iff.mpr hop)⟩

/-! ## SEC, CLC, EXT and NOP (R141 to R144) -/

/-- An instruction without a literal is decoded from one byte only, since that byte is its encoding. -/
theorem decodeHead_eq_whole_iff {b c : Byte} {i : Instr} (hc : decodeHead c = .whole i) :
    decodeHead b = .whole i ↔ b = c := by
  constructor
  · intro hb
    have hencode : [b] = [c] := (encode_of_decodeHead_whole hb).symm.trans (encode_of_decodeHead_whole hc)
    exact List.singleton_inj.mp hencode
  · rintro rfl
    exact hc

theorem exec_sec (s : State) : exec .sec s = complete (setCarry true s) := rfl

theorem exec_clc (s : State) : exec .clc s = complete (setCarry false s) := rfl

theorem exec_ext (s : State) : exec .ext s = complete (push8 .working 0x00 s) := rfl

theorem exec_nop (s : State) : exec .nop s = complete s := rfl

/-- Settles O22: each is the instruction its own byte decodes to, and completes after its one effect. -/
theorem secClcExtNopResults : Obligations.SecClcExtNopResults := by
  unfold Obligations.SecClcExtNopResults
  refine ⟨fun b => ⟨decodeHead_eq_whole_iff rfl, decodeHead_eq_whole_iff rfl, decodeHead_eq_whole_iff rfl,
    decodeHead_eq_whole_iff rfl⟩, fun s => ⟨?sec, ?clc, ?ext, ?nop⟩⟩
  case sec =>
    rw [exec_sec, setCarry_eq]
    rfl
  case clc =>
    rw [exec_clc, setCarry_eq]
    rfl
  case ext => rw [exec_ext, complete, push8_pc]
  case nop => rw [exec_nop, complete, setPc]

end Sys2Proof.Machine
end

section
/-! POP, SWP, ROT, DUP, OVR, STH, PIC and PUT (42_stack.md R150 to R157). An instruction's takes are said once in the
vocabulary of the stack pictures, operand by operand; each operation is then an equation, and the instruction is that
equation and the increment of `pc`. The frame of the operations that push onto the other stack, JSR among them, is
the frame of one push. -/

namespace Sys2Proof.Machine

/-! ## The operands of the stack pictures (40_cycle.md R114, R115) -/

@[simp] theorem dropOperands_pc (m : Mode) (k : Nat) (s : State) : (dropOperands m k s).pc = s.pc :=
  dropCells_pc m _ s

@[simp] theorem pushResult_pc (m : Mode) (v : BitVec m.width.bits) (s : State) : (pushResult m v s).pc = s.pc :=
  push_pc m.width m.stack v s

theorem take_top (m : Mode) (s : State) : take m m.width 0 s = (top m s, dropOperands m 1 s) := by
  rw [take_first, dropOperands, Nat.one_mul, top]

theorem takePair_operands (m : Mode) (s : State) :
    takePair m s = ⟨second m s, top m s, dropOperands m 2 s⟩ := takePair_eq m s

/-- The third take of an instruction. -/
theorem take_third (m : Mode) (s : State) :
    take m m.width (2 * m.width.bytes) (dropOperands m 2 s) = (third m s, dropOperands m 3 s) := by
  have hcells : 3 * m.width.bytes = 2 * m.width.bytes + m.width.bytes := Nat.succ_mul 2 _
  rw [dropOperands, take_dropCells, dropOperands, hcells, third]

/-- The take of a one-byte operand on top. -/
theorem take_topByte (m : Mode) (s : State) : take m .one 0 s = (peek8 m.stack 0 s, dropCells m 1 s) :=
  take_first m .one s

/-- The take of the operand under a one-byte one. -/
theorem take_underByte (m : Mode) (s : State) :
    take m m.width 1 (dropCells m 1 s) = (underByte m s, dropCells m (m.width.bytes + 1) s) := by
  rw [take_dropCells, underByte, Nat.add_comm]

/-- A peek after `c` cells were taken is `c` cells deeper, and with keep no deeper. -/
theorem peek_dropCells (w : Width) (m : Mode) (o c : Nat) (s : State) :
    peek w m.stack o (dropCells m c s) = peek w m.stack (o + if m.keep then 0 else c) s := by
  unfold dropCells
  split
  · rfl
  · rw [peek_setSp, Nat.add_comm]

/-! ## The operations -/

theorem popOp_eq (m : Mode) (s : State) : popOp m s = dropOperands m 1 s := by
  rw [popOp, take_top]

theorem swpOp_eq (m : Mode) (s : State) :
    swpOp m s = pushResult m (second m s) (pushResult m (top m s) (dropOperands m 2 s)) := by
  simp only [swpOp, takePair_operands, pushResult]

theorem rotOp_eq (m : Mode) (s : State) :
    rotOp m s =
      pushResult m (third m s) (pushResult m (top m s) (pushResult m (second m s) (dropOperands m 3 s))) := by
  simp only [rotOp, takePair_operands, take_third, pushResult]

theorem dupOp_eq (m : Mode) (s : State) :
    dupOp m s = pushResult m (top m s) (pushResult m (top m s) (dropOperands m 1 s)) := by
  simp only [dupOp, take_top, pushResult]

theorem ovrOp_eq (m : Mode) (s : State) :
    ovrOp m s =
      pushResult m (second m s) (pushResult m (top m s) (pushResult m (second m s) (dropOperands m 2 s))) := by
  simp only [ovrOp, takePair_operands, pushResult]

theorem sthOp_eq (m : Mode) (s : State) :
    sthOp m s = push m.width m.stack.other (top m s) (dropOperands m 1 s) := by
  simp only [sthOp, take_top]

/-- D17: the offset counts from the pointer after the take, which with keep has not moved. -/
theorem picOp_eq (m : Mode) (s : State) :
    picOp m s = pushResult m (peek m.width m.stack ((peek8 m.stack 0 s).toNat + if m.keep then 0 else 1) s)
      (dropCells m 1 s) := by
  simp only [picOp, take_topByte, peek_dropCells, pushResult]

theorem putOp_eq (m : Mode) (s : State) :
    putOp m s = poke m.width m.stack (peek8 m.stack 0 s).toNat (underByte m s)
      (dropCells m (m.width.bytes + 1) s) := by
  simp only [putOp, take_topByte, take_underByte]

/-! ## The instructions -/

/-- An instruction whose operation leaves `pc` at the opcode goes to the next byte (40_cycle.md R118). -/
theorem complete_eq_of_pc {s u : State} (h : u.pc = s.pc) : complete u = .next (setPc (s.pc + 1) u) := by
  rw [complete, h]

/-- Settles O23: POP is one take. -/
theorem popDropsTheTopOperand : Obligations.PopDropsTheTopOperand := by
  unfold Obligations.PopDropsTheTopOperand
  intro m s hform
  refine ⟨decodeHead_opByte_base .pop m, ?_⟩
  rw [exec_form_pop m s hform, popOp_eq]
  exact complete_eq_of_pc (by simp)

/-- Settles O24: two takes and two pushes, three takes and three pushes. -/
theorem swpAndRotReorderOperands : Obligations.SwpAndRotReorderOperands := by
  unfold Obligations.SwpAndRotReorderOperands
  intro m s
  refine ⟨⟨decodeHead_opByte_base .swp m, decodeHead_opByte_base .rot m⟩, ?swp, ?rot⟩
  case swp =>
    rw [exec_form_swp, swpOp_eq]
    exact complete_eq_of_pc (by simp)
  case rot =>
    rw [exec_form_rot, rotOp_eq]
    exact complete_eq_of_pc (by simp)

/-- Settles O25: one take and two pushes, two takes and three pushes. -/
theorem dupAndOvrCopyOperands : Obligations.DupAndOvrCopyOperands := by
  unfold Obligations.DupAndOvrCopyOperands
  intro m s
  refine ⟨⟨decodeHead_opByte_base .dup m, decodeHead_opByte_base .ovr m⟩, ?dup, ?ovr⟩
  case dup =>
    rw [exec_form_dup, dupOp_eq]
    exact complete_eq_of_pc (by simp)
  case ovr =>
    rw [exec_form_ovr, ovrOp_eq]
    exact complete_eq_of_pc (by simp)

theorem exec_form_sth_eq (m : Mode) (s : State) :
    exec (form .sth m) s =
      .next (setPc (s.pc + 1) (push m.width m.stack.other (top m s) (dropOperands m 1 s))) := by
  rw [exec_form_sth, sthOp_eq]
  exact complete_eq_of_pc (by simp)

/-- Settles O26: one take from the own stack, one push onto the other. -/
theorem sthMovesTheTopToTheOtherStack : Obligations.SthMovesTheTopToTheOtherStack := by
  unfold Obligations.SthMovesTheTopToTheOtherStack
  exact fun m s => ⟨decodeHead_opByte_base .sth m, exec_form_sth_eq m s⟩

/-- Settles O27: the peek after the take is the peek that much deeper before it. -/
theorem picCopiesTheCellAtAnOffset : Obligations.PicCopiesTheCellAtAnOffset := by
  unfold Obligations.PicCopiesTheCellAtAnOffset
  intro m s
  refine ⟨decodeHead_opByte_base .pic m, ?_⟩
  rw [exec_form_pic, picOp_eq]
  exact complete_eq_of_pc (by simp)

/-! ## The frame of PUT (R157) -/

@[simp] theorem sp_poke (w : Width) (st st' : StackId) (o : Nat) (v : BitVec w.bits) (s : State) :
    sp st' (poke w st o v s) = sp st' s := by
  cases w <;> simp [poke, poke16, poke8]

/-- A poke writes the cells at its offset only. -/
theorem poke_ram_read_of_ne {w : Width} {st : StackId} {o : Nat} {v : BitVec w.bits} {s : State} {b : Nat}
    (hfirst : b ≠ (cellAddr st (peekIndex st o s)).toNat)
    (hsecond : w = .two → b ≠ (cellAddr st (peekIndex st (o + 1) s)).toNat) :
    (poke w st o v s).ram.read b = s.ram.read b := by
  cases w with
  | one => exact Memory.read_write_of_ne _ _ hfirst.symm
  | two =>
    exact (Memory.read_write_of_ne _ _ (hsecond rfl).symm).trans (Memory.read_write_of_ne _ _ hfirst.symm)

theorem exec_form_put_eq (m : Mode) (s : State) :
    exec (form .put m) s = .next (setPc (s.pc + 1) (poke m.width m.stack (peek8 m.stack 0 s).toNat (underByte m s)
      (dropCells m (m.width.bytes + 1) s))) := by
  rw [exec_form_put, putOp_eq]
  exact complete_eq_of_pc (by simp)

/-- Settles O28: two takes and a poke, which moves no pointer, so the cells named after it are those it wrote. -/
theorem putStoresAtAnOffset : Obligations.PutStoresAtAnOffset := by
  unfold Obligations.PutStoresAtAnOffset
  intro m s
  refine ⟨decodeHead_opByte_base .put m, _, exec_form_put_eq m s, rfl, ?flags, ?other, ?own, ?bus, ?ram⟩
  case flags => simp
  case other => simp
  case own => simp
  case bus => simp [sameBus]
  case ram =>
    simp only [peekIndex, sp_setPc, sp_poke, setPc_ram]
    intro b hfirst hsecond
    rw [poke_ram_read_of_ne hfirst hsecond, dropCells_ram]

/-! ## The frame of STH and JSR (R155, 43_compare_control.md R175) -/

@[simp] theorem sp_push_other (w : Width) (st : StackId) (v : BitVec w.bits) (s : State) :
    sp st (push w st.other v s) = sp st s := by
  simpa using sp_other_push w st.other v s

/-- The increment ends a taken jump at its target (40_cycle.md R120). -/
theorem complete_jump (a : Addr) (s : State) : complete (jump a s) = .next (setPc a s) := by
  rw [complete, jump, setPc_setPc, setPc_pc, BitVec.sub_add_cancel]

theorem exec_form_jsr_eq (m : Mode) (s : State) :
    exec (form .jsr m) s = .next (setPc (jumpAddr m.width (top m s) s)
      (push .two m.stack.other (s.pc + 1) (dropOperands m 1 s))) := by
  rw [exec_form_jsr, jsrOp, target, take_top]
  exact complete_jump _ _

/-- From `s` to `t`, `taken` cells of the mode's stack were taken and `pushed` cells pushed onto the other one, and
nothing else was done to the stacks, to RAM, to the flags or to the bus. -/
structure OtherFrame (m : Mode) (taken pushed : Nat) (s t : State) : Prop where
  own : sp m.stack t = sp m.stack (dropCells m taken s)
  other : sp m.stack.other t = sp m.stack.other s - BitVec.ofNat 8 pushed
  flags : t.flags = s.flags
  bus : sameBus s t
  ram : ∀ b, ¬ pushedCell m.stack.other (sp m.stack.other s) pushed b → t.ram.read b = s.ram.read b

/-- Wherever it goes on, an instruction that takes from its stack and pushes onto the other does nothing else. -/
theorem otherFrame_push (m : Mode) (c : Nat) (w : Width) (v : BitVec w.bits) (a : Addr) (s : State) :
    OtherFrame m c w.bytes s (setPc a (push w m.stack.other v (dropCells m c s))) where
  own := by simp
  other := by simp
  flags := by simp
  bus := by simp [sameBus]
  ram b hb := by
    rw [← sp_other_dropCells m c s] at hb
    rw [setPc_ram, push_ram_read_of_not_pushedCell hb, dropCells_ram]

/-- Settles O45: STH pushes its operand, JSR two cells at both widths. -/
theorem otherStackFrame : Obligations.OtherStackFrame := by
  unfold Obligations.OtherStackFrame
  intro op hop m s t h
  suffices hframe : OtherFrame m (cellsTaken op m.width.bytes) (cellsPushed op m.width.bytes) s t from
    ⟨hframe.own, hframe.other, hframe.flags, hframe.bus, hframe.ram⟩
  simp only [List.mem_cons, List.not_mem_nil, or_false] at hop
  rcases hop with rfl | rfl
  · rw [exec_form_sth_eq, dropOperands, Nat.one_mul] at h
    cases h
    exact otherFrame_push m _ m.width _ _ s
  · rw [exec_form_jsr_eq, dropOperands, Nat.one_mul] at h
    cases h
    exact otherFrame_push m _ .two _ _ s

end Sys2Proof.Machine
end

section
/-! EQU, GTH, JMP, JCN, JSR and RTI (43_compare_control.md R170 to R176). A comparison is a pair of takes and a push; a
jump is its takes and the end of an instruction at its target, which is said once for the three jumps. The return
after a call is a peek at what the call pushed. -/

namespace Sys2Proof.Machine

/-! ## EQU and GTH (R170, R171) -/

theorem equOp_eq (m : Mode) (s : State) :
    equOp m s = push8 m.stack (if second m s = top m s then 0x01 else 0x00) (dropOperands m 2 s) := by
  simp only [equOp, takePair_operands, truthByte, beq_iff_eq]

theorem gthOp_eq (m : Mode) (s : State) :
    gthOp m s =
      push8 m.stack (if (second m s).toInt > (top m s).toInt then 0x01 else 0x00) (dropOperands m 2 s) := by
  simp only [gthOp, takePair_operands, truthByte, decide_eq_true_eq, gt_iff_lt]

/-- Settles O29: two takes and a push of one byte, which leave `pc` at the opcode. -/
theorem equAndGthPushOneByte : Obligations.EquAndGthPushOneByte := by
  unfold Obligations.EquAndGthPushOneByte
  intro m s
  refine ⟨⟨decodeHead_opByte_base .equ m, decodeHead_opByte_base .gth m⟩, ?equ, ?gth⟩
  case equ =>
    rw [exec_form_equ, equOp_eq]
    exact complete_eq_of_pc (by simp)
  case gth =>
    rw [exec_form_gth, gthOp_eq]
    exact complete_eq_of_pc (by simp)

/-! ## JMP and JCN (R172 to R174) -/

/-- The target the model computes from the operand is the one of the statements. -/
theorem jumpAddr_top (m : Mode) (s : State) : jumpAddr m.width (top m s) s = jumpTarget m s := by
  obtain ⟨_, _, w⟩ := m
  cases w <;> rfl

theorem target_operands (m : Mode) (s : State) : target m s = (jumpTarget m s, dropOperands m 1 s) := by
  rw [target, take_top, jumpAddr_top]

/-- The take of the one-byte operand under the first operand. -/
theorem take_byteUnderTop (m : Mode) (s : State) :
    take m .one m.width.bytes (dropOperands m 1 s) =
      (peek8 m.stack m.width.bytes s, dropCells m (m.width.bytes + 1) s) := by
  rw [dropOperands, Nat.one_mul, take_dropCells]
  rfl

theorem condition_iff (c : Byte) : condition c = true ↔ c ≠ 0x00 := bne_iff_ne

theorem jmpOp_eq (m : Mode) (s : State) : jmpOp m s = jump (jumpTarget m s) (dropOperands m 1 s) := by
  rw [jmpOp, target_operands]

theorem jcnOp_eq (m : Mode) (s : State) :
    jcnOp m s =
      if peek8 m.stack m.width.bytes s = 0x00 then dropCells m (m.width.bytes + 1) s
      else jump (jumpTarget m s) (dropCells m (m.width.bytes + 1) s) := by
  simp only [jcnOp, target_operands, take_byteUnderTop, condition_iff, ne_eq, ite_not]

theorem exec_form_jmp_eq (m : Mode) (s : State) :
    exec (form .jmp m) s = .next (setPc (jumpTarget m s) (dropOperands m 1 s)) := by
  rw [exec_form_jmp, jmpOp_eq, complete_jump]

/-- Settles O30: both end as an instruction does, a jump at its target and a JCN not taken at the next byte. -/
theorem jmpAndJcnGoToTheirTarget : Obligations.JmpAndJcnGoToTheirTarget := by
  unfold Obligations.JmpAndJcnGoToTheirTarget
  intro m s
  refine ⟨⟨decodeHead_opByte_base .jmp m, decodeHead_opByte_base .jcn m⟩, exec_form_jmp_eq m s, ?jcn⟩
  rw [exec_form_jcn, jcnOp_eq]
  split
  case isTrue => exact complete_eq_of_pc (dropCells_pc m _ s)
  case isFalse => exact complete_jump _ _

/-! ## JSR (R175) -/

/-- Settles O31: the push of the return address is of two bytes at both widths. -/
theorem jsrPushesTheReturnAddress : Obligations.JsrPushesTheReturnAddress := by
  unfold Obligations.JsrPushesTheReturnAddress
  intro m s
  refine ⟨decodeHead_opByte_base .jsr m, ?_⟩
  rw [exec_form_jsr_eq, jumpAddr_top]
  rfl

/-! ## The return after a call (R173, R175; 90_conflicts.md C5) -/

theorem exec_jsr2 (s : State) :
    exec .jsr2 s = .next (setPc (peek16 .working 0 s)
      (push .two .ret (s.pc + 1) (setSp .working (s.wsp + 2) s))) :=
  exec_form_jsr_eq ⟨false, .working, .two⟩ s

theorem exec_jmp2r (s : State) :
    exec .jmp2r s = .next (setPc (peek16 .ret 0 s) (setSp .ret (s.rsp + 2) s)) :=
  exec_form_jmp_eq ⟨false, .ret, .two⟩ s

/-- What the return needs of the call, and the two target cells it took. -/
theorem exec_jsr2_leaves {s t : State} (h : exec .jsr2 s = .next t) :
    peek16 .ret 0 t = s.pc + 1 ∧ t.rsp = s.rsp - 2 ∧ t.wsp = s.wsp + 2 := by
  rw [exec_jsr2] at h
  cases h
  exact ⟨peek_push .two .ret (s.pc + 1) _, sp_push .two .ret (s.pc + 1) _,
    sp_push_other .two .working (s.pc + 1) _⟩

/-- Settles O33: JMP2r reads RAM and its own pointer alone, which are as the push of JSR2 left them. -/
theorem jmpTwoReturnUndoesJsrTwo : Obligations.JmpTwoReturnUndoesJsrTwo := by
  unfold Obligations.JmpTwoReturnUndoesJsrTwo
  intro s t u hcall hrsp hram
  obtain ⟨haddr, hret, hwork⟩ := exec_jsr2_leaves hcall
  have hpc : peek16 .ret 0 u = s.pc + 1 := (peek_congr (w := .two) (st := .ret) hram hrsp).trans haddr
  have hback : u.rsp + 2 = s.rsp := by rw [hrsp, hret, BitVec.sub_add_cancel]
  exact ⟨_, exec_jmp2r u, hpc, hback, rfl, hwork⟩

/-! ## RTI (R176) -/

theorem exec_rti (s : State) : exec .rti s = complete (returnWithFlags s) := rfl

/-- The pop of the flags moves the working stack's pointer only, so the address is the one the return stack held. -/
theorem returnWithFlags_eq (s : State) :
    returnWithFlags s = { s with
      wsp := s.wsp + 1, rsp := s.rsp + 2, flags := peek8 .working 0 s, pc := peek16 .ret 0 s - 1 } := by
  have haddr : peek .two .ret 0 (setSp .working (s.wsp + 1) s) = peek .two .ret 0 s := peek_congr rfl rfl
  have hpop : pop16 .ret (setSp .working (s.wsp + 1) s) =
      (peek16 .ret 0 s, setSp .ret (s.rsp + 2) (setSp .working (s.wsp + 1) s)) :=
    (pop_eq .two .ret _).trans (congrArg (·, _) haddr)
  have hflags : pop8 .working s = (peek8 .working 0 s, setSp .working (s.wsp + 1) s) := pop8_eq .working s
  simp only [returnWithFlags, hflags, hpop]
  rfl

/-- Settles O32: the increment of the end takes `pc` from one before the address to the address. -/
theorem rtiRestoresFlagsAndReturns : Obligations.RtiRestoresFlagsAndReturns := by
  unfold Obligations.RtiRestoresFlagsAndReturns
  refine ⟨fun b => decodeHead_eq_whole_iff rfl, fun s => ?_⟩
  rw [exec_rti, returnWithFlags_eq, complete, setPc, BitVec.sub_add_cancel]

end Sys2Proof.Machine
end

section
/-! LDZ, STZ, LDR, STR, LDA and STA (44_memory_access.md R190 to R195). A load is one read through the router and a
push, a store is one write through the router; the three stores share one equation over their address. Where every
byte of an access is in RAM the router is plain RAM, which is said once for each direction. -/

namespace Sys2Proof.Machine

/-! ## Accesses in RAM (20_memory.md R55 to R57) -/

theorem inRam_zext16 (w : Width) (o : Byte) : inRam w (zext16 o) = true := by
  obtain ⟨hfirst, hsecond⟩ := zext16_isRam o
  cases w with
  | one => exact hfirst
  | two => exact Bool.and_eq_true_iff.mpr ⟨hfirst, hsecond⟩

theorem memRead_inRam {w : Width} {a : Addr} (h : inRam w a = true) (s : State) :
    memRead w a s = (loaded w a s, s) := by
  cases w with
  | one => exact read8_ram h
  | two =>
    obtain ⟨hfirst, hsecond⟩ := Bool.and_eq_true_iff.mp h
    simp only [memRead, read16, read8_ram hfirst, read8_ram hsecond, loaded]

theorem memWrite_inRam {w : Width} {a : Addr} (h : inRam w a = true) (v : BitVec w.bits) (s : State) :
    memWrite w a v s = .done (stored w a v s) := by
  cases w with
  | one => exact write8_ram h
  | two =>
    obtain ⟨hfirst, hsecond⟩ := Bool.and_eq_true_iff.mp h
    exact write16_ram hfirst hsecond

/-- A value in RAM depends on RAM alone, which no take changes. -/
@[simp] theorem loaded_dropCells (w : Width) (a : Addr) (m : Mode) (c : Nat) (s : State) :
    loaded w a (dropCells m c s) = loaded w a s := by
  cases w <;> simp only [loaded, ramRead, dropCells_ram]

/-- A store in RAM changes RAM alone. -/
theorem stored_keeps (w : Width) (a : Addr) (v : BitVec w.bits) (s : State) :
    stored w a v s = { s with ram := (stored w a v s).ram } := by
  cases w <;> rfl

@[simp] theorem stored_pc (w : Width) (a : Addr) (v : BitVec w.bits) (s : State) : (stored w a v s).pc = s.pc := by
  rw [stored_keeps]

@[simp] theorem stored_flags (w : Width) (a : Addr) (v : BitVec w.bits) (s : State) :
    (stored w a v s).flags = s.flags := by
  rw [stored_keeps]

@[simp] theorem sp_stored (st : StackId) (w : Width) (a : Addr) (v : BitVec w.bits) (s : State) :
    sp st (stored w a v s) = sp st s := by
  rw [stored_keeps]
  cases st <;> rfl

theorem sameBus_stored (w : Width) (a : Addr) (v : BitVec w.bits) (s : State) : sameBus s (stored w a v s) := by
  rw [stored_keeps]
  exact ⟨rfl, rfl, rfl, rfl, rfl, rfl, rfl⟩

/-- A store in RAM writes the bytes it touches, at both widths. -/
theorem stored_ram_read_of_ne {w : Width} {a : Addr} {b : Nat} (v : BitVec w.bits) (s : State)
    (hb : ¬ touches w a b) : (stored w a v s).ram.read b = s.ram.read b := by
  cases w with
  | one => exact Memory.read_write_of_ne _ _ fun he => hb (.inl he.symm)
  | two => exact stored_ram_read_of_not_touches v s hb

/-! ## Loads (R190, R192, R194) -/

theorem complete_loadOp (k : Addressing) (m : Mode) (s : State) :
    complete (loadOp k m s) = .next (setPc (s.pc + 1) (loadOp k m s)) :=
  complete_eq_of_pc (loadOp_pc k m s)

/-- What a load of the mode's width from `a` through the router leaves, after it took `c` cells. -/
def routerLoad (m : Mode) (c : Nat) (a : Addr) (s : State) : State :=
  let r := memRead m.width a (dropCells m c s)
  setPc (s.pc + 1) (pushResult m r.1 r.2)

theorem exec_form_ldz_eq (m : Mode) (s : State) :
    exec (form .ldz m) s = .next (routerLoad m 1 (zext16 (peek8 m.stack 0 s)) s) := by
  rw [exec_form_ldz, complete_loadOp, loadOp_eq]
  rfl

theorem exec_form_ldr_eq (m : Mode) (s : State) :
    exec (form .ldr m) s = .next (routerLoad m 1 (s.pc + sext16 (peek8 m.stack 0 s)) s) := by
  rw [exec_form_ldr, complete_loadOp, loadOp_eq]
  rfl

theorem exec_form_lda_eq (m : Mode) (s : State) :
    exec (form .lda m) s = .next (routerLoad m 2 (peek16 m.stack 0 s) s) := by
  rw [exec_form_lda, complete_loadOp, loadOp_eq]
  rfl

/-- In RAM a load pushes the value that stands at the address. -/
theorem routerLoad_inRam {m : Mode} {a : Addr} (h : inRam m.width a = true) (c : Nat) (s : State) :
    routerLoad m c a s = setPc (s.pc + 1) (pushResult m (loaded m.width a s) (dropCells m c s)) := by
  simp only [routerLoad, memRead_inRam h, loaded_dropCells]

/-- Settles O34: the three loads are the router's read, which for LDZ is in RAM. -/
theorem loadsPushTheValueRead : Obligations.LoadsPushTheValueRead := by
  unfold Obligations.LoadsPushTheValueRead
  intro m s
  refine ⟨⟨decodeHead_opByte_base .ldz m, decodeHead_opByte_base .ldr m, decodeHead_opByte_base .lda m⟩, ?ldz,
    exec_form_ldr_eq m s, exec_form_lda_eq m s⟩
  rw [exec_form_ldz_eq, routerLoad_inRam (inRam_zext16 m.width _)]

/-- From `s` to `t`, `taken` cells of the mode's stack were taken, at most one request to read was made for each byte
of the mode's width, with its answer taken, and `pushed` cells were pushed onto that stack; nothing else was done
but to `pc`. -/
structure ReadFrame (m : Mode) (taken pushed : Nat) (s t : State) : Prop where
  own : sp m.stack t = sp m.stack (dropCells m taken s) - BitVec.ofNat 8 pushed
  other : sp m.stack.other t = sp m.stack.other s
  flags : t.flags = s.flags
  lastDmaSource : t.lastDmaSource = s.lastDmaSource
  slots : t.slots = s.slots
  status : t.status = s.status
  writeInputs : t.writeInputs = s.writeInputs
  dmaFuel : t.dmaFuel = s.dmaFuel
  requests : ∃ reads : List (Slot × Port), reads.length ≤ m.width.bytes ∧
    t.busTrace = s.busTrace ++ reads.map (fun r => BusEvent.read r.1 r.2) ∧
    t.readInputs = s.readInputs.drop reads.length
  ram : ∀ b, ¬ pushedCell m.stack (sp m.stack (dropCells m taken s)) pushed b → t.ram.read b = s.ram.read b

/-- The pointers and RAM are those of the takes and the push; the rest is what the read leaves. -/
theorem routerLoad_readFrame (m : Mode) (c : Nat) (a : Addr) (s : State) :
    ReadFrame m c m.width.bytes s (routerLoad m c a s) := by
  obtain ⟨hkeeps, hstatus, hram⟩ := memRead_keeps m.width a (dropCells m c s)
  obtain ⟨reads, hlength, hread⟩ := memRead_spec m.width a (dropCells m c s)
  have hsp := hkeeps.sp m.stack
  unfold routerLoad pushResult
  constructor
  case own => rw [sp_setPc, sp_push, hsp]
  case other => rw [sp_setPc, sp_other_push, hkeeps.sp, sp_other_dropCells]
  case status => rw [setPc_status, push_status, hstatus, dropCells_status]
  case requests => exact ⟨reads, hlength, by simp [hread], by simp [hread]⟩
  case ram =>
    intro b hb
    rw [← hsp] at hb
    rw [setPc_ram, push_ram_read_of_not_pushedCell hb, hram, dropCells_ram]
  all_goals simp [hread]

/-- Settles O46: LDR takes one cell for its address and LDA two, and both push what the router reads. -/
theorem loadFrame : Obligations.LoadFrame := by
  unfold Obligations.LoadFrame
  intro op hop m s t h
  suffices hframe : ReadFrame m (cellsTaken op m.width.bytes) (cellsPushed op m.width.bytes) s t from
    ⟨hframe.own, hframe.other, hframe.flags, hframe.lastDmaSource, hframe.slots, hframe.status,
      hframe.writeInputs, hframe.dmaFuel, hframe.requests, hframe.ram⟩
  simp only [List.mem_cons, List.not_mem_nil, or_false] at hop
  rcases hop with rfl | rfl
  · rw [exec_form_ldr_eq] at h
    cases h
    exact routerLoad_readFrame m 1 _ s
  · rw [exec_form_lda_eq] at h
    cases h
    exact routerLoad_readFrame m 2 _ s

/-! ## Stores (R191, R193, R195) -/

/-- The operand of a store, under its address, which is one cell for STZ and STR and two for STA (D16). -/
def storeOperand (op : BaseOp) (m : Mode) (s : State) : BitVec m.width.bits :=
  peek m.width m.stack (if op = .sta then 2 else 1) s

/-- The router's write of a store, with the operands taken. -/
def storeWrite (op : BaseOp) (m : Mode) (s : State) : Flow :=
  memWrite m.width (storeAddr op m s) (storeOperand op m s) (dropCells m (cellsTaken op m.width.bytes) s)

/-- A store is its write and the end of an instruction. -/
theorem exec_form_store {op : BaseOp} (hop : op ∈ [BaseOp.stz, .str, .sta]) (m : Mode) (s : State) :
    exec (form op m) s = (storeWrite op m s).complete := by
  simp only [List.mem_cons, List.not_mem_nil, or_false] at hop
  rcases hop with rfl | rfl | rfl
  · rw [exec_form_stz, storeOp_eq, Nat.add_comm]
    rfl
  · rw [exec_form_str, storeOp_eq, Nat.add_comm]
    rfl
  · rw [exec_form_sta, storeOp_eq, Nat.add_comm]
    rfl

/-- However its write ends, a store has not moved `pc` by then. -/
theorem storeWrite_pc {op : BaseOp} {m : Mode} {s u : State}
    (h : storeWrite op m s = .done u ∨ storeWrite op m s = .halted u) : u.pc = s.pc := by
  have hkeeps : (storeWrite op m s).keeps (dropCells m (cellsTaken op m.width.bytes) s) := memWrite_keeps ..
  rcases h with h | h <;> rw [h] at hkeeps <;> exact hkeeps.1.pc.trans (dropCells_pc m _ s)

/-- Settles O60: the three ends of the write are the three ends of the store. -/
theorem storesAreTheRoutersWrite : Obligations.StoresAreTheRoutersWrite := by
  unfold Obligations.StoresAreTheRoutersWrite
  intro op hop m s
  change (∀ u, storeWrite op m s = .done u → _) ∧ (∀ u, storeWrite op m s = .halted u → _) ∧
    (storeWrite op m s = .stuck → _)
  rw [exec_form_store hop]
  refine ⟨fun u hdone => ?done, fun u hhalted => ?halted, fun hstuck => ?stuck⟩
  case done =>
    rw [hdone]
    exact complete_eq_of_pc (storeWrite_pc (.inl hdone))
  case halted =>
    rw [hhalted]
    exact ⟨rfl, storeWrite_pc (.inr hhalted)⟩
  case stuck =>
    rw [hstuck]
    rfl

/-! ## Stores in RAM -/

theorem exec_form_store_inRam {op : BaseOp} (hop : op ∈ [BaseOp.stz, .str, .sta]) {m : Mode} {s : State}
    (h : inRam m.width (storeAddr op m s) = true) :
    exec (form op m) s = .next (setPc (s.pc + 1)
      (stored m.width (storeAddr op m s) (storeOperand op m s) (dropCells m (cellsTaken op m.width.bytes) s))) := by
  rw [exec_form_store hop, storeWrite, memWrite_inRam h]
  exact complete_eq_of_pc (by simp)

/-- Settles O35: STZ always stores in RAM, STR and STA where the statement says so. -/
theorem storesWriteRam : Obligations.StoresWriteRam := by
  unfold Obligations.StoresWriteRam
  intro m s
  exact ⟨⟨decodeHead_opByte_base .stz m, decodeHead_opByte_base .str m, decodeHead_opByte_base .sta m⟩,
    exec_form_store_inRam (op := .stz) (by decide) (inRam_zext16 m.width _),
    fun h => exec_form_store_inRam (op := .str) (by decide) h,
    fun h => exec_form_store_inRam (op := .sta) (by decide) h⟩

/-- Settles O47: the takes move the own pointer, and the write changes the bytes it touches. -/
theorem ramStoreFrame : Obligations.RamStoreFrame := by
  unfold Obligations.RamStoreFrame
  intro op hop m s t hin h
  rw [exec_form_store_inRam hop hin] at h
  cases h
  refine ⟨?own, ?other, ?flags, ?bus, fun b hb => ?ram⟩
  case own => simp
  case other => simp
  case flags => simp
  case bus =>
    have htaken : sameBus s (dropCells m (cellsTaken op m.width.bytes) s) := by simp [sameBus]
    exact sameBus_trans htaken (sameBus_stored _ _ _ _)
  case ram => rw [setPc_ram, stored_ram_read_of_ne _ _ hb, dropCells_ram]

/-! ## One byte to a port (20_memory.md R62, R63, R66) -/

@[simp] theorem present_dropCells (slot : Slot) (m : Mode) (c : Nat) (s : State) :
    present slot (dropCells m c s) = present slot s :=
  present_congr (dropCells_slots m c s)

/-- A device's answer depends on the answers and the requests so far, which no take changes. -/
@[simp] theorem writeAnswer_dropCells (slot : Slot) (port : Port) (v : Byte) (m : Mode) (c : Nat) (s : State) :
    writeAnswer slot port v (dropCells m c s) = writeAnswer slot port v s := by
  simp only [writeAnswer, dropCells_writeInputs, dropCells_busTrace]

/-- A one-byte STA is the byte's write, from the state after the takes. -/
theorem exec_form_sta_one (keep : Bool) (st : StackId) (s : State) :
    exec (form .sta ⟨keep, st, .one⟩) s =
      (write8 (dropCells ⟨keep, st, .one⟩ 3 s).dmaFuel (peek16 st 0 s) (peek8 st 2 s)
        (dropCells ⟨keep, st, .one⟩ 3 s)).complete :=
  exec_form_store (op := .sta) (by decide) _ s

/-- Settles O36: the unpopulated slot, the answer of no effect, and the shutdown. -/
theorem staToADevicePort : Obligations.StaToADevicePort := by
  unfold Obligations.StaToADevicePort
  intro keep st s ha m slot port v u
  have hpresent : ∀ k, present k (dropCells m 3 s) = present k s := fun k => present_dropCells k m 3 s
  have hanswer : writeAnswer slot port v (dropCells m 3 s) = writeAnswer slot port v s :=
    writeAnswer_dropCells slot port v m 3 s
  rw [exec_form_sta_one]
  refine ⟨fun hp => ?absent, fun hp hr => ?noEffect, fun code hp hr => ?shutdown⟩
  case absent =>
    rw [write8_absent ha ((hpresent slot).trans hp)]
    exact complete_eq_of_pc (dropCells_pc m 3 s)
  case noEffect =>
    rw [write8_answered ha ((hpresent slot).trans hp) (hanswer.trans hr) fun _ => rfl]
    exact complete_eq_of_pc (dropCells_pc m 3 s)
  case shutdown =>
    obtain ⟨hhalted, -⟩ :=
      shutdownResponseHalts (dropCells m 3 s).dmaFuel _ _ _ code ha ((hpresent slot).trans hp) (hanswer.trans hr)
    rw [hhalted]
    simp only [hpresent, u, afterRequest, Flow.complete, List.append_assoc, List.singleton_append]
    rfl

end Sys2Proof.Machine
end

section
/-! ADC, SBC, MUL, DVM, AND, IOR, XOR and SFT (45_arith_logic.md R200 to R207). Each takes its operands, computes and
pushes, with the word operation of the model the arithmetic of the statements modulo `2^w`; ADC and SBC then write C.
The end of such an instruction is said once without C and once with it. -/

namespace Sys2Proof.Machine

/-! ## The end of the instruction -/

/-- Takes and one push leave `pc` at the opcode. -/
theorem complete_pushResult (m : Mode) (c : Nat) (v : BitVec m.width.bits) (s : State) :
    complete (pushResult m v (dropCells m c s)) = .next (setPc (s.pc + 1) (pushResult m v (dropCells m c s))) :=
  complete_eq_of_pc (by simp)

@[simp] theorem dropOperands_flags (m : Mode) (k : Nat) (s : State) : (dropOperands m k s).flags = s.flags :=
  dropCells_flags m _ s

@[simp] theorem pushResult_flags (m : Mode) (v : BitVec m.width.bits) (s : State) :
    (pushResult m v s).flags = s.flags :=
  push_flags m.width m.stack v s

/-- With a write of C after the push, the flag byte is the old one with bit 0 written. -/
theorem complete_setCarry_pushResult (m : Mode) (k : Nat) (c : Bool) (v : BitVec m.width.bits) (s : State) :
    complete (setCarry c (pushResult m v (dropOperands m k s))) =
      .next { pushResult m v (dropOperands m k s) with
        pc := s.pc + 1
        flags := if c then s.flags ||| 0x01 else s.flags &&& 0xFE } := by
  simp only [complete, setCarry_eq, setPc, pushResult_pc, dropOperands_pc, pushResult_flags, dropOperands_flags]

/-! ## ADC and SBC (R200, R201) -/

theorem adcOp_eq (m : Mode) (s : State) :
    adcOp m s = setCarry (sumCarry (second m s) (top m s) (carryNat s))
      (pushResult m (BitVec.ofNat m.width.bits (sumExact (second m s) (top m s) (carryNat s)))
        (dropOperands m 2 s)) := by
  simp only [adcOp, takePair_operands, pushResult]

theorem sbcOp_eq (m : Mode) (s : State) :
    sbcOp m s = setCarry (differenceCarry (second m s) (top m s) (carryNat s))
      (pushResult m (BitVec.ofInt m.width.bits (differenceExact (second m s) (top m s) (carryNat s)))
        (dropOperands m 2 s)) := by
  simp only [sbcOp, takePair_operands, pushResult]

/-- Settles O37: two takes, a push and the write of C, which was read as the parity of the flag byte. -/
theorem adcAddsWithCarry : Obligations.AdcAddsWithCarry := by
  unfold Obligations.AdcAddsWithCarry
  refine fun m s => ⟨decodeHead_opByte_base .adc m, ?_⟩
  rw [exec_form_adc, adcOp_eq, complete_setCarry_pushResult]
  simp only [sumCarry, sumExact, carryNat_eq, decide_eq_true_eq]

/-- Settles O38: as ADC, the exact difference an integer. -/
theorem sbcSubtractsWithBorrow : Obligations.SbcSubtractsWithBorrow := by
  unfold Obligations.SbcSubtractsWithBorrow
  refine fun m s => ⟨decodeHead_opByte_base .sbc m, ?_⟩
  rw [exec_form_sbc, sbcOp_eq, complete_setCarry_pushResult]
  simp only [differenceCarry, differenceExact, carryNat_eq, decide_eq_true_eq]

/-! ## MUL and DVM (R202, R203) -/

/-- The product of words is the low half of the product of numbers. -/
theorem mul_eq_ofNat {n : Nat} (a b : BitVec n) : a * b = BitVec.ofNat n (a.toNat * b.toNat) := by
  rw [BitVec.ofNat_mul, BitVec.ofNat_toNat, BitVec.ofNat_toNat, BitVec.setWidth_eq, BitVec.setWidth_eq]

theorem mulOp_eq (m : Mode) (s : State) :
    mulOp m s =
      pushResult m (BitVec.ofNat m.width.bits ((second m s).toNat * (top m s).toNat)) (dropOperands m 2 s) := by
  simp only [mulOp, takePair_operands, pushResult, mul_eq_ofNat]

/-- The divisor is looked at before any take, so the fault finds the state as it was. -/
theorem dvmOp_of_top_eq_zero {m : Mode} {s : State} (h : top m s = 0) :
    dvmOp m s = .next (raise .divideByZero s) :=
  if_pos h

theorem dvmOp_of_top_ne_zero {m : Mode} {s : State} (h : top m s ≠ 0) :
    dvmOp m s = complete (pushResult m (BitVec.ofNat m.width.bits ((second m s).toNat % (top m s).toNat))
      (pushResult m (BitVec.ofNat m.width.bits ((second m s).toNat / (top m s).toNat)) (dropOperands m 2 s))) :=
  (if_neg h).trans (by simp only [takePair_operands, pushResult, BitVec.udiv_def, BitVec.umod_def])

/-- Settles O39: two takes and a push of the product. -/
theorem mulKeepsTheLowHalf : Obligations.MulKeepsTheLowHalf := by
  unfold Obligations.MulKeepsTheLowHalf
  refine fun m s => ⟨decodeHead_opByte_base .mul m, ?_⟩
  rw [exec_form_mul, mulOp_eq]
  exact complete_pushResult m _ _ s

/-- Settles O40: a divisor that is not zero, and the fault. -/
theorem dvmPushesQuotientAndRemainder : Obligations.DvmPushesQuotientAndRemainder := by
  unfold Obligations.DvmPushesQuotientAndRemainder
  refine fun m s => ⟨decodeHead_opByte_base .dvm m, fun hdivisor => ?quotient, fun hzero => ?fault⟩
  case quotient =>
    rw [exec_form_dvm, dvmOp_of_top_ne_zero hdivisor]
    exact complete_eq_of_pc (by simp)
  case fault => rw [exec_form_dvm, dvmOp_of_top_eq_zero hzero, raise]

/-! ## AND, IOR and XOR (R204 to R206) -/

theorem andOp_eq (m : Mode) (s : State) :
    andOp m s = pushResult m (second m s &&& top m s) (dropOperands m 2 s) := by
  simp only [andOp, takePair_operands, pushResult]

theorem iorOp_eq (m : Mode) (s : State) :
    iorOp m s = pushResult m (second m s ||| top m s) (dropOperands m 2 s) := by
  simp only [iorOp, takePair_operands, pushResult]

theorem xorOp_eq (m : Mode) (s : State) :
    xorOp m s = pushResult m (second m s ^^^ top m s) (dropOperands m 2 s) := by
  simp only [xorOp, takePair_operands, pushResult]

/-- Settles O42: each is two takes and a push. -/
theorem andIorXorAreBitwise : Obligations.AndIorXorAreBitwise := by
  unfold Obligations.AndIorXorAreBitwise
  refine fun m s => ⟨⟨decodeHead_opByte_base .and m, decodeHead_opByte_base .ior m, decodeHead_opByte_base .xor m⟩,
    ?and, ?ior, ?xor⟩
  case and => rw [exec_form_and, andOp_eq]; exact complete_pushResult m _ _ s
  case ior => rw [exec_form_ior, iorOp_eq]; exact complete_pushResult m _ _ s
  case xor => rw [exec_form_xor, xorOp_eq]; exact complete_pushResult m _ _ s

/-! ## SFT (R207) -/

/-- A left shift cut to the width is a product modulo `2^n`, a right shift a quotient. -/
theorem shiftLeft_shiftRight_eq_ofNat {n : Nat} (v : BitVec n) (l r : Nat) :
    (v <<< l) >>> r = BitVec.ofNat n (v.toNat * 2 ^ l % 2 ^ n / 2 ^ r) := by
  rw [← Nat.shiftLeft_eq, ← Nat.shiftRight_eq_div_pow, ← BitVec.toNat_shiftLeft, ← BitVec.toNat_ushiftRight,
    BitVec.ofNat_toNat, BitVec.setWidth_eq]

theorem sftOp_eq (m : Mode) (s : State) :
    sftOp m s = pushResult m ((underByte m s <<< leftCount (peek8 m.stack 0 s)) >>> rightCount (peek8 m.stack 0 s))
      (dropCells m (m.width.bytes + 1) s) := by
  simp only [sftOp, take_topByte, take_underByte, pushResult]

/-- Settles O43: the counts are the quotient and the remainder of the amount by 16. -/
theorem sftShiftsLeftThenRight : Obligations.SftShiftsLeftThenRight := by
  unfold Obligations.SftShiftsLeftThenRight
  refine fun m s => ⟨decodeHead_opByte_base .sft m, ?_⟩
  rw [exec_form_sft, sftOp_eq, shiftLeft_shiftRight_eq_ofNat]
  exact complete_pushResult m _ _ s

end Sys2Proof.Machine
end

section
/-! The exception and the halt (45_arith_logic.md R203; 60_exceptions.md R220 to R222, R227; 20_memory.md R66). The run
status is written in two places only: by DVM before it takes anything, and by a store's write that a device answers
with a shutdown. This is one inversion of `exec`, read off the frames of the instructions; a step adds the fetch,
which keeps the status and `pc`. -/

namespace Sys2Proof.Machine

/-! ## What an instruction does to the status -/

/-- What an instruction that answers `t` from `s` did to the run status. -/
inductive StatusEnd (i : Instr) (s t : State) : Prop where
  | kept (hstatus : t.status = s.status)
  | faulted (m : Mode) (hdvm : i = form .dvm m) (hzero : top m s = 0) (hraise : t = raise .divideByZero s)
  | halted (op : BaseOp) (m : Mode) (hop : op = .str ∨ op = .sta) (hstore : i = form op m)
      (hout : inRam m.width (storeAddr op m s) = false) (hhalted : ∃ code, t.status = .halted code)
      (hpc : t.pc = s.pc)

theorem sameBus_status {s t : State} (h : sameBus s t) : t.status = s.status := by
  obtain ⟨-, -, hstatus, -⟩ := h
  exact hstatus

theorem StatusEnd.of_sameBus {i : Instr} {s t : State} (h : sameBus s t) : StatusEnd i s t :=
  .kept (sameBus_status h)

/-- The end of an instruction leaves the status to what came before it. -/
theorem StatusEnd.of_complete {i : Instr} {s t u : State} (hu : u.status = s.status) (h : complete u = .next t) :
    StatusEnd i s t := by
  cases h
  exact .kept hu

theorem dvm_statusEnd {m : Mode} {s t : State} (h : exec (form .dvm m) s = .next t) :
    StatusEnd (form .dvm m) s t := by
  by_cases hzero : top m s = 0
  · rw [exec_form_dvm, dvmOp_of_top_eq_zero hzero] at h
    cases h
    exact .faulted m rfl hzero rfl
  · exact .of_sameBus (exec_form_ownFrame (by decide) rfl (fun _ => hzero) t h).bus

/-- A store that keeps to RAM meets no device; what any other store leaves is done or halted. -/
theorem store_statusEnd {op : BaseOp} (hop : op = .str ∨ op = .sta) {m : Mode} {s t : State}
    (h : exec (form op m) s = .next t) : StatusEnd (form op m) s t := by
  have hmem : op ∈ [BaseOp.stz, .str, .sta] := by rcases hop with rfl | rfl <;> decide
  cases hin : inRam m.width (storeAddr op m s) with
  | true =>
    obtain ⟨-, -, -, hbus, -⟩ := ramStoreFrame op hmem m s t hin h
    exact .of_sameBus hbus
  | false =>
    obtain ⟨-, -, -, -, -, ⟨hstatus, -⟩ | ⟨hhalted, hpc⟩⟩ := deviceStoreFrame op hmem m s t h
    · exact .kept hstatus
    · exact .halted op m hop rfl hin hhalted hpc

theorem exec_form_statusEnd {op : BaseOp} {m : Mode} (hform : wellFormedForm op m = true) {s t : State}
    (h : exec (form op m) s = .next t) : StatusEnd (form op m) s t := by
  cases op with
  | dvm => exact dvm_statusEnd h
  | str => exact store_statusEnd (.inl rfl) h
  | sta => exact store_statusEnd (.inr rfl) h
  | stz =>
    obtain ⟨-, -, -, hbus, -⟩ := ramStoreFrame .stz (by decide) m s t (inRam_zext16 m.width _) h
    exact .of_sameBus hbus
  | ldr | lda =>
    obtain ⟨-, -, -, -, -, hstatus, -⟩ := loadFrame _ (by decide) m s t h
    exact .kept hstatus
  | sth | jsr =>
    obtain ⟨-, -, -, hbus, -⟩ := otherStackFrame _ (by decide) m s t h
    exact .of_sameBus hbus
  | put =>
    rw [exec_form_put_eq] at h
    cases h
    exact .kept (by simp)
  | pop | swp | rot | dup | ovr | equ | gth | jmp | jcn | ldz | pic | adc | sbc | mul | and | ior | xor | sft =>
    exact .of_sameBus (exec_form_ownFrame (by decide) hform nofun t h).bus

/-- The status is written by DVM and by stores outside RAM, and by nothing else. -/
theorem exec_statusEnd {i : Instr} {s t : State} (h : exec i s = .next t) : StatusEnd i s t := by
  rcases instr_cases i with
    ⟨st, w, imm, rfl⟩ | rfl | rfl | rfl | rfl | rfl | ⟨op, m, rfl⟩ | ⟨op, m, hform, rfl⟩
  · rw [exec_litForm] at h
    exact .of_complete (by simp [pushLiteral]) h
  · exact .of_complete rfl h
  · exact .of_complete (setCarry_status true s) h
  · exact .of_complete (setCarry_status false s) h
  · exact .of_complete (push8_status .working 0x00 s) h
  · exact .of_complete (by rw [returnWithFlags_eq]) h
  · rw [exec_reservedForm] at h
    exact .of_complete rfl h
  · exact exec_form_statusEnd hform h

/-! ## The fault -/

/-- What executes from a running machine and faults is a DVM with a zero divisor, at the opcode's address. -/
theorem exec_faulted {i : Instr} {s t : State} {c : Cause} {a : Addr} (hrun : s.status = .running)
    (h : exec i s = .next t) (hfault : t.status = .faulted c a) :
    t = raise .divideByZero s ∧ ∃ m, i = form .dvm m ∧ top m s = 0 := by
  cases exec_statusEnd h with
  | kept hstatus => exact nomatch hfault.symm.trans (hstatus.trans hrun)
  | faulted m hdvm hzero hraise => exact ⟨hraise, m, hdvm, hzero⟩
  | halted op m hop hstore hout hhalted hpc =>
    obtain ⟨code, hcode⟩ := hhalted
    exact nomatch hfault.symm.trans hcode

/-- Settles O51: the step executes what was fetched, and the fetch moved neither the status nor `pc`. -/
theorem onlyDvmFaults : Obligations.OnlyDvmFaults := by
  unfold Obligations.OnlyDvmFaults
  intro s t c a hrun h hfault
  obtain ⟨hkeeps, hstatus, -⟩ := fetch_keeps s
  rw [step_running hrun] at h
  obtain ⟨rfl, hdvm⟩ := exec_faulted (hstatus.trans hrun) h hfault
  rw [raise_status, hkeeps.pc] at hfault
  cases hfault
  refine ⟨rfl, rfl, rfl, ?_, hdvm⟩
  rw [← hkeeps.pc]
  rfl

/-- A machine whose status is a fault stays as it is and answers that fault (60_exceptions.md R221). -/
theorem faulted_is_final {s : State} {c : Cause} {a : Addr} (h : s.status = .faulted c a) :
    step s = .next s ∧ driverResult s = some (.faulted c a) := by
  have hstopped : s.status ≠ .running := fun hrun => nomatch h.symm.trans hrun
  obtain ⟨hstep, hresult⟩ := stoppedStepChangesNothing s hstopped
  rw [h] at hresult
  exact ⟨hstep, hresult⟩

/-- Settles O41: DVM raises before any take, the state it raises in is final, and a running machine with the byte in
RAM at `pc` executes that DVM. -/
theorem dvmByZeroFaultsPrecisely : Obligations.DvmByZeroFaultsPrecisely := by
  unfold Obligations.DvmByZeroFaultsPrecisely
  intro m s hzero
  obtain ⟨hhead, -, hfault⟩ := dvmPushesQuotientAndRemainder m s
  have hexec := hfault hzero
  refine ⟨hhead, hexec, fun t ht => ?final, fun hrun hram hbyte => ?driver⟩
  case final =>
    rw [hexec] at ht
    cases ht
    exact faulted_is_final rfl
  case driver =>
    have hfetch : fetch s = (form .dvm m, s) := fetch_ram_whole hram (by rw [hbyte, hhead])
    simp only [driverResult, step_running hrun, hfetch, hexec, Status.result]

/-! ## The halt -/

/-- Settles O52: of the three ends of an instruction, the one that halts a running machine. -/
theorem onlyDeviceStoresHalt : Obligations.OnlyDeviceStoresHalt := by
  unfold Obligations.OnlyDeviceStoresHalt
  intro i s t code hrun h hhalt
  cases exec_statusEnd h with
  | kept hstatus => exact nomatch hhalt.symm.trans (hstatus.trans hrun)
  | faulted m hdvm hzero hraise =>
    rw [hraise] at hhalt
    exact nomatch hhalt
  | halted op m hop hstore hout hhalted hpc =>
    refine ⟨hpc, m, ?_⟩
    rcases hop with rfl | rfl
    · exact .inl ⟨hstore, hout⟩
    · exact .inr ⟨hstore, hout⟩

end Sys2Proof.Machine
end

section
/-! The checks, the image and the slot table of an accepted construction (70_reset_and_hazards.md R251 to R254):
when no error applies, what each cell of RAM holds after the load, and what each slot holds after the placements. -/

namespace Sys2Proof.Machine

/-! ## The checks -/

/-- What R251 asks of one entry by itself; that its slot is its own is a matter of the whole list. -/
def Placement.Valid (P : DeviceKinds) (p : Placement) : Prop :=
  1 ≤ p.slot ∧ p.slot ≤ 15 ∧ p.kind ≠ P.mandatory ∧ p.kind ∈ P.known ∧ P.accepts p.kind p.options = true

theorem entryErrors_eq_nil_iff {P : DeviceKinds} {earlier : List Nat} {p : Placement} :
    entryErrors P earlier p = [] ↔ p.Valid P ∧ p.slot ∉ earlier := by
  simp only [entryErrors, Placement.Valid, List.append_eq_nil_iff, errorIf_eq_nil, beq_eq_false_iff_ne,
    decide_eq_false_iff_not, List.contains_eq_mem, Bool.not_eq_false', Bool.and_eq_false_iff, decide_eq_true_eq]
  constructor
  · rintro ⟨⟨⟨⟨⟨hzero, hkind⟩, hrange⟩, hown⟩, hknown⟩, hoptions⟩
    exact ⟨⟨by omega, by omega, hkind, hknown, hoptions.resolve_left (· hknown)⟩, hown⟩
  · rintro ⟨⟨hlow, hhigh, hkind, hknown, hoptions⟩, hown⟩
    exact ⟨⟨⟨⟨⟨by omega, hkind⟩, by omega⟩, hown⟩, hknown⟩, .inr hoptions⟩

/-- The list of earlier slots makes the check of R251's DuplicateSlot the distinctness of all the slots. -/
theorem placementErrors_eq_nil_iff {P : DeviceKinds} {earlier : List Nat} {ps : List Placement} :
    placementErrors P earlier ps = [] ↔
      (∀ p ∈ ps, p.Valid P) ∧ (∀ p ∈ ps, p.slot ∉ earlier) ∧ (ps.map Placement.slot).Nodup := by
  induction ps generalizing earlier with
  | nil => simp [placementErrors]
  | cons p rest ih =>
    rw [placementErrors, List.append_eq_nil_iff, entryErrors_eq_nil_iff, ih]
    simp only [List.forall_mem_cons, List.map_cons, List.nodup_cons, List.mem_map, not_exists, not_and]
    simp only [List.mem_cons, not_or]
    constructor
    · rintro ⟨⟨hvalid, hown⟩, hvalids, howns, hnodup⟩
      exact ⟨⟨hvalid, hvalids⟩, ⟨hown, fun q hq => (howns q hq).2⟩, fun q hq => (howns q hq).1, hnodup⟩
    · rintro ⟨⟨hvalid, hvalids⟩, ⟨hown, howns⟩, hfresh, hnodup⟩
      exact ⟨⟨hvalid, hown⟩, hvalids, fun q hq => ⟨hfresh q hq, howns q hq⟩, hnodup⟩

theorem imageCapacity_eq : imageCapacity = 64512 := by decide

theorem configErrors_eq_nil_iff {P : DeviceKinds} {image : List Byte} {ps : List Placement} :
    configErrors P image ps = [] ↔
      image.length ≤ 64512 ∧ (∀ p ∈ ps, p.Valid P) ∧ (ps.map Placement.slot).Nodup := by
  have hsize : decide (imageCapacity < image.length) = false ↔ image.length ≤ 64512 := by
    rw [decide_eq_false_iff_not, Nat.not_lt, imageCapacity_eq]
  have hplaces : placementErrors P [] ps = [] ↔
      (∀ p ∈ ps, p.Valid P) ∧ (ps.map Placement.slot).Nodup := by
    simp [placementErrors_eq_nil_iff]
  rw [configErrors, List.append_eq_nil_iff, errorIf_eq_nil, hsize, hplaces, and_comm]

theorem imageTooLarge_mem_configErrors {P : DeviceKinds} {image : List Byte} {ps : List Placement}
    (h : 64512 < image.length) : ConfigError.imageTooLarge ∈ configErrors P image ps := by
  have hsize : decide (imageCapacity < image.length) = true := by
    rw [imageCapacity_eq, decide_eq_true h]
  rw [configErrors, hsize]
  exact List.mem_append_right _ (List.mem_singleton_self _)

theorem construct_accepts_iff {P : DeviceKinds} {image : List Byte} {ps : List Placement} :
    (∃ s, construct P image ps = .ok s) ↔ configErrors P image ps = [] :=
  ⟨fun ⟨_, h⟩ => (construct_ok h).1, fun h => ⟨_, if_pos h⟩⟩

theorem construct_error {P : DeviceKinds} {image : List Byte} {ps : List Placement}
    (h : configErrors P image ps ≠ []) : construct P image ps = .error (configErrors P image ps) :=
  if_neg h

/-! ## The image -/

theorem loadImage_read_outside {image : List Byte} {a b : Nat} {m : Memory}
    (h : b < a ∨ a + image.length ≤ b) : (loadImage a image m).read b = m.read b := by
  induction image generalizing a m with
  | nil => rfl
  | cons v rest ih =>
    rw [List.length_cons] at h
    calc (loadImage (a + 1) rest (m.write a v)).read b
        = (m.write a v).read b := ih (by omega)
      _ = m.read b := Memory.read_write_of_ne m v (by omega)

/-- The first byte is written first, and the rest of the load stays above it. -/
theorem loadImage_read_image {image : List Byte} {a k : Nat} {m : Memory} (h : k < image.length) :
    (loadImage a image m).read (a + k) = image[k] := by
  induction image generalizing a k m with
  | nil => exact absurd h (Nat.not_lt_zero k)
  | cons v rest ih =>
    cases k with
    | zero =>
      calc (loadImage (a + 1) rest (m.write a v)).read a
          = (m.write a v).read a := loadImage_read_outside (.inl (Nat.lt_succ_self a))
        _ = v := Memory.read_write_same m a v
    | succ k =>
      have hk : k < rest.length := Nat.lt_of_succ_lt_succ h
      have hrest : (loadImage (a + 1) rest (m.write a v)).read (a + 1 + k) = rest[k] := ih hk
      rwa [Nat.add_right_comm] at hrest

/-- Settles O57: the image is loaded at `0x0300` into RAM with no cell set, and its size is one of the checks. -/
theorem constructionLoadsTheImage : Obligations.ConstructionLoadsTheImage := by
  unfold Obligations.ConstructionLoadsTheImage
  intro P image ps
  constructor
  · intro s h
    obtain ⟨-, rfl⟩ := construct_ok h
    exact ⟨fun k hk => loadImage_read_image hk, fun a ha => loadImage_read_outside ha⟩
  · intro hlong
    have hmem := imageTooLarge_mem_configErrors (P := P) (ps := ps) hlong
    exact ⟨_, construct_error (List.ne_nil_of_mem hmem), hmem⟩

/-! ## The kinds in the slot table -/

theorem placeDevice_get_same {t : Vector (Option KindId) 16} {p : Placement} (h : p.slot < 16) :
    (placeDevice t p).get ⟨p.slot, h⟩ = some p.kind := by
  simp [placeDevice, h, Vector.get_eq_getElem]

theorem placeDevice_get_of_ne {t : Vector (Option KindId) 16} {p : Placement} {slot : Slot}
    (h : p.slot ≠ slot.val) : (placeDevice t p).get slot = t.get slot := by
  unfold placeDevice
  split
  · simp [Vector.get_eq_getElem, h]
  · rfl

theorem foldl_placeDevice_get_of_forall_ne {t : Vector (Option KindId) 16} {ps : List Placement} {slot : Slot}
    (h : ∀ p ∈ ps, p.slot ≠ slot.val) : (ps.foldl placeDevice t).get slot = t.get slot := by
  induction ps generalizing t with
  | nil => rfl
  | cons p rest ih =>
    obtain ⟨hp, hrest⟩ := List.forall_mem_cons.mp h
    exact (ih hrest).trans (placeDevice_get_of_ne hp)

/-- With the slots distinct, no later entry takes the place of one. -/
theorem foldl_placeDevice_get_of_mem {t : Vector (Option KindId) 16} {ps : List Placement} {p : Placement}
    (hnodup : (ps.map Placement.slot).Nodup) (hp : p ∈ ps) (h : p.slot < 16) :
    (ps.foldl placeDevice t).get ⟨p.slot, h⟩ = some p.kind := by
  induction ps generalizing t with
  | nil => exact absurd hp List.not_mem_nil
  | cons q rest ih =>
    rw [List.map_cons, List.nodup_cons] at hnodup
    obtain ⟨hfresh, hnodup⟩ := hnodup
    cases List.mem_cons.mp hp with
    | inl heq =>
      subst heq
      have hlater : ∀ r ∈ rest, r.slot ≠ p.slot := fun r hr he => hfresh (he ▸ List.mem_map_of_mem hr)
      rw [List.foldl_cons]
      exact (foldl_placeDevice_get_of_forall_ne hlater).trans (placeDevice_get_same h)
    | inr hmem => exact ih hnodup hmem

/-- The table before the first placement: the mandatory kind in slot 0 and nothing else (R253). -/
theorem slotTable_nil_get (P : DeviceKinds) {slot : Slot} (h : slot ≠ 0) : (slotTable P []).get slot = none := by
  have hval : 0 ≠ slot.val := fun he => h (Fin.ext he.symm)
  simp [slotTable, Vector.get_eq_getElem, hval]

/-- A slot that no entry names is as it was before the first placement. -/
theorem slotTable_get_of_forall_ne {P : DeviceKinds} {ps : List Placement} {slot : Slot}
    (h : ∀ p ∈ ps, p.slot ≠ slot.val) : (slotTable P ps).get slot = (slotTable P []).get slot :=
  foldl_placeDevice_get_of_forall_ne h

/-- Settles O58: the machine is built exactly where the list of errors is empty; then no entry names slot 0, and the
slots of the entries are distinct. -/
theorem constructionChecksThePlacements : Obligations.ConstructionChecksThePlacements := by
  unfold Obligations.ConstructionChecksThePlacements
  intro P image ps
  refine ⟨construct_accepts_iff.trans configErrors_eq_nil_iff, fun s h => ?_⟩
  obtain ⟨hok, rfl⟩ := construct_ok h
  obtain ⟨-, hvalid, hnodup⟩ := configErrors_eq_nil_iff.mp hok
  refine ⟨?mandatory, ?placed, ?empty⟩
  case mandatory =>
    have hzero : ∀ p ∈ ps, p.slot ≠ 0 := fun p hp => Nat.one_le_iff_ne_zero.mp (hvalid p hp).1
    exact slotTable_get_of_forall_ne hzero
  case placed => exact fun p hp hlt => foldl_placeDevice_get_of_mem hnodup hp hlt
  case empty => exact fun slot hslot hfree => (slotTable_get_of_forall_ne hfree).trans (slotTable_nil_get P hslot)

end Sys2Proof.Machine
end
